-- ==== Sys2Proof/Word.lean ====
section
/-! DEFINITION. The value types of the engine (00_scope.md section 5.1): bytes, 16-bit words, 32-bit
milliseconds and counters. Every value is unsigned; `+`, `-`, `*` wrap at the width. -/

namespace Sys2Proof

/-- A byte of a frame (00_scope.md section 5.1). -/
abbrev Byte := BitVec 8

/-- A 16-bit unsigned word: a holding register, a frame field, the CRC (00_scope.md section 5.1). -/
abbrev Word := BitVec 16

/-- A time in milliseconds, TIME_W = 32 bits, wrapping at 2^32 (R7, R31). -/
abbrev Time := BitVec 32

/-- A reply-counter value, CTR_W = 32 bits, wrapping at 2^32 (R7, R23). -/
abbrev Count := BitVec 32

/-- A preset-bank selector, 4 bits (R28, R72). -/
abbrev BankNr := BitVec 4

/-- The BANK_WORDS = 14 raw words of one preset bank (R7, R135). -/
abbrev Bank := Vector Word 14

end Sys2Proof
end

