-- ==== Sys2Proof/Machine/Bytes.lean ====
section
/-! DEFINITION. Field assembly (R45, R68) and the bit strings of the host port (R72): how words become bytes and
bits and are read back. -/

namespace Sys2Proof

/-- The high byte of a word (00_scope.md section 5.1). -/
def hi8 (v : Word) : Byte := v.extractLsb' 8 8

/-- The low byte of a word (00_scope.md section 5.1). -/
def lo8 (v : Word) : Byte := v.extractLsb' 0 8

/-- The word whose high byte is `a` and low byte `b` (00_scope.md section 5.1). -/
def be16 (a b : Byte) : Word := a ++ b

/-- Payload words as bytes, each word's high byte first (R45, R64). -/
def bytesOfWords : List Word → List Byte
  | [] => []
  | w :: ws => hi8 w :: lo8 w :: bytesOfWords ws

/-- Payload bytes as words, each word's high byte first (R45, R65). -/
def wordsOfBytes : List Byte → List Word
  | a :: b :: rest => be16 a b :: wordsOfBytes rest
  | _ => []

/-- A field as bits, most significant bit first (R72). -/
def bitsOf {n : Nat} (v : BitVec n) : List Bool := (List.range n).map fun i => v.getMsbD i

/-- The number a bit string spells, most significant bit first (R72). -/
def natOfBits (bits : List Bool) : Nat := bits.foldl (fun acc b => 2 * acc + b.toNat) 0

/-- Reads one `n`-bit field from the front of a bit string, and the bits after it (R72). -/
def takeField (n : Nat) (bits : List Bool) : Option (BitVec n × List Bool) :=
  if n ≤ bits.length then some (BitVec.ofNat n (natOfBits (bits.take n)), bits.drop n) else none

/-- The words of a bank as bits, w[0] first, each most significant bit first (R72). -/
def bitsOfBank (w : Bank) : List Bool := w.toList.flatMap bitsOf

/-- Reads the 14 words of a bank from the front of a bit string, and the bits after them (R72). -/
def takeBank (bits : List Bool) : Option (Bank × List Bool) :=
  if 224 ≤ bits.length then
    some (Vector.ofFn fun k : Fin 14 => BitVec.ofNat 16 (natOfBits ((bits.drop (16 * k.val)).take 16)),
      bits.drop 224)
  else none

end Sys2Proof
end

