-- ==== Sys2Proof/Machine/Crc.lean ====
section
/-! DEFINITION. The CRC-16 unit (spec/40_crc.md): the function, its table-driven form, the trailer it appends and
the validator. The order of the steps inside the loop and the absence of a final exclusive-or are the spec's own
reading (K1, log entry 18). -/

namespace Sys2Proof

/-- One shift step: test bit 0, shift right, exclusive-or the polynomial 0xA001 if the bit was 1 (R80, R85). -/
def crcShift (c : Word) : Word := if c.getLsbD 0 then (c >>> 1) ^^^ 0xA001#16 else c >>> 1

/-- `n` shift steps (R80). -/
def crcShifts : Nat → Word → Word
  | 0, c => c
  | n + 1, c => crcShifts n (crcShift c)

/-- One byte enters the low half of the register, then eight shift steps (R80). -/
def crcByte (c : Word) (b : Byte) : Word := crcShifts 8 (c ^^^ b.setWidth 16)

/-- The CRC-16 of a byte sequence: initial value 0xFFFF, bytes in transmission order, no final inversion (R80). -/
def crc16 (s : List Byte) : Word := s.foldl crcByte 0xFFFF#16

/-- An entry of the 256-entry table: the eight shift steps on the byte alone (R84). -/
def crcTable (b : Byte) : Word := crcShifts 8 (b.setWidth 16)

/-- One byte of the table-driven form (R84). -/
def crcTableByte (c : Word) (b : Byte) : Word := (c >>> 8) ^^^ crcTable (lo8 (c ^^^ b.setWidth 16))

/-- The table-driven CRC-16 (R84). -/
def crc16Table (s : List Byte) : Word := s.foldl crcTableByte 0xFFFF#16

/-- A frame's body with its CRC appended, low byte first (R81, R46). -/
def crcAppend (body : List Byte) : List Byte := body ++ [lo8 (crc16 body), hi8 (crc16 body)]

/-- The validator: the CRC of all but the last two bytes equals the word those two spell, low byte first (R82).
A sequence of fewer than two bytes has no trailer and is not valid. No rule of the engine calls it (R83). -/
def crcCheck (f : List Byte) : Bool :=
  match f.reverse with
  | hi :: lo :: body => crc16 body.reverse == be16 hi lo
  | _ => false

end Sys2Proof
end

