-- ==== Sys2Proof/Config.lean ====
section
/-! DEFINITION. The parameters of rule R7: the fixed ones as numbers, the OPEN ones as constants without a
body (log entries 1, 2), and the free values the model uses where a content is unspecified (log entry 8). -/

namespace Sys2Proof.Config

/-- WQ_CAP: the write-queue capacity in entries (R7, C5). -/
abbrev wqCap : Nat := 16

/-- BANK_WORDS: words in a preset bank (R7). -/
abbrev bankWords : Nat := 14

/-- N_BANKS: preset banks, selectors 0 to 9 (R7). -/
abbrev nBanks : Nat := 10

/-- PACING_RESET_MS: the pacing interval after reset (R7, R21). -/
abbrev pacingResetMs : Time := 50

/-- COARSE_MS: the period of the coarse tick (R7, R145). -/
abbrev coarseMs : Time := 10

/-- MIN_FRAME: the fewest buffered bytes that are classified (R7, R143). -/
abbrev minFrame : Nat := 5

/-- TXBUF_CAP: the prepared-frame buffer's capacity, 9 + 2 * BANK_WORDS (R7, R29). -/
abbrev txbufCap : Nat := 37

/-- The OPEN parameters of rule R7 that are not the size of a register file. A machine carries them in its state
and no step changes them; their ranges are in their types (log entry 1). -/
structure Params where
  /-- PRESET_BASE: the device address of word 0 of bank 0, any 16-bit value (R7, U14). -/
  presetBase : Word
  /-- PRESET_STRIDE: the device-address distance between banks, any 16-bit value (R7, U14). -/
  presetStride : Word
  /-- TIMEOUT_TICKS less 4: the retry budget's reload value is 4 to 7 (R7, U12). -/
  timeoutSel : Fin 4
  /-- DEV_ADDR_RESET: the device address after reset, any byte (R7, R20). -/
  devAddrReset : Byte
  deriving DecidableEq, Repr

/-- TIMEOUT_TICKS, 4 to 7, in the 3 bits of RETRY (R7, R24). -/
def Params.timeoutTicks (p : Params) : BitVec 3 := BitVec.ofNat 3 (4 + p.timeoutSel.val)

/-- OPEN (R7): N_REGS less 1, so that N_REGS is 1 to 127. Free (log entry 1). -/
opaque nRegsSel : Fin 127

/-- OPEN (R7): PRESET_BASE. Free (log entry 1). -/
opaque presetBase : Word

/-- OPEN (R7): PRESET_STRIDE. Free (log entry 1). -/
opaque presetStride : Word

/-- OPEN (R7): TIMEOUT_TICKS less 4. Free (log entry 1). -/
opaque timeoutSel : Fin 4

/-- OPEN (R7): DEV_ADDR_RESET. Free (log entry 1). -/
opaque devAddrReset : Byte

/-- The `now` operand of the reset that starts a run (R36, R190): no rule fixes it. Free (log entry 2). -/
opaque resetTime : Time

/-- The n-th unspecified byte: the index field of a WQ_MEM slot after a reset (R27, U11). Free (log entry 8). -/
opaque freeByte : Nat → Byte

/-- The n-th unspecified word: the value field of a WQ_MEM slot after a reset (R27, U11). Free (log entry 8). -/
opaque freeWord : Nat → Word

/-- N_REGS of the machine that `Machine.State.reset` starts: 1 to 127 (R7). -/
def nRegs : Nat := nRegsSel.val + 1

/-- The OPEN parameters of the machine that `Machine.State.reset` starts. -/
def params : Params := ⟨presetBase, presetStride, timeoutSel, devAddrReset⟩

end Sys2Proof.Config
end

