-- ==== Sys2Proof/Syntax.lean ====
section
/-! DEFINITION. The instructions: one constructor per row of spec/opcode_table.json. Seven are wire frames
(R61), twelve are host operations (R72). The operands are the fields of the row; a field the row fixes (the
function byte, a count that follows from the payload, a request's CRC) is no operand. -/

namespace Sys2Proof

/-- Every row of the opcode table (R61, R72). -/
inductive Instr where
  /-- RDREQ, read holding registers, engine to slave (R62, R90). `addr` is byte 0 of the frame. -/
  | rdreq (addr : Byte) (start count : Word)
  /-- WRSREQ, write single register, engine to slave (R63, R91). The high index byte is always 0. -/
  | wrsreq (addr : Byte) (idx : Byte) (val : Word)
  /-- WRMREQ, write multiple registers, engine to slave (R64, R92). The count is the number of words. -/
  | wrmreq (addr : Byte) (start : Word) (words : List Word)
  /-- EXCRPL, exception reply (R67, R101). `orig` is the function byte's low seven bits, which nothing examines. -/
  | excrpl (addr : Byte) (orig : BitVec 7) (code crcLo crcHi : Byte)
  /-- RDRPL, read reply (R65, R102). The byte count is twice the number of values. -/
  | rdrpl (addr : Byte) (values : List Word) (crcLo crcHi : Byte)
  /-- WRSCNF, write-single confirm (R63, R103). The index is all 16 bits. -/
  | wrscnf (addr : Byte) (idx val : Word) (crcLo crcHi : Byte)
  /-- WRMCNF, write-multiple confirm (R66, R104). -/
  | wrmcnf (addr : Byte) (start count : Word) (crcLo crcHi : Byte)
  /-- RDC, readCached (R120). -/
  | rdc (idx : Byte)
  /-- ENQ, enqueueWrite (R121). -/
  | enq (idx : Byte) (val : Word)
  /-- PRQ, requestPreset (R131). -/
  | prq (nr : BankNr)
  /-- PPL, pollPresetReady (R132). -/
  | ppl
  /-- PPS, pushPreset (R133). -/
  | pps (nr : BankNr) (w : Bank)
  /-- RCT, the snapshot for the freshness query (R155). -/
  | rct
  /-- FRS, the freshness query (R156). -/
  | frs (x : Count)
  /-- SDA, configure the device address (R157). -/
  | sda (addr : Byte)
  /-- SPI, configure the pacing interval (R158). -/
  | spi (ms : Time)
  /-- SFL, configure the feature flags (R159). -/
  | sfl (skip norefresh : Bool)
  /-- ADV, the tick (R140). -/
  | adv (now : Time)
  /-- RST, reset (R190). -/
  | rst (now : Time)
  deriving DecidableEq, Repr

/-- What the encoding of an instruction is made of, and on which side of the engine it stands: the direction is
not encoded in a frame (R61), and a command is a string of bits on a port of its own (R72). -/
inductive Image where
  /-- A command on the host port, most significant bit of the operation code first (R72). -/
  | command (bits : List Bool)
  /-- A request frame, engine to slave, in transmission order (R60, R61). -/
  | toSlave (frame : List Byte)
  /-- A reply frame, slave to engine, in transmission order (R60, R61). -/
  | toEngine (frame : List Byte)
  deriving DecidableEq, Repr

/-- Why a received buffer is `Malformed` (R102, R105, R170). -/
inductive BadReply where
  /-- The function byte is outside the map of R69. -/
  | unknownFunction
  /-- A read reply's byte count is above MAX_PAYLOAD. -/
  | oversized
  /-- A read reply's byte count is odd. -/
  | odd
  deriving DecidableEq, Repr

/-- The six outcomes of classifying a received buffer (R100), each accepted one with the fields of its frame. -/
inductive Reply where
  /-- `Exception` (R101). -/
  | exception (addr : Byte) (orig : BitVec 7) (code crcLo crcHi : Byte)
  /-- `ReadReply` (R102). -/
  | readReply (addr : Byte) (values : List Word) (crcLo crcHi : Byte)
  /-- `WriteSingleConfirm` (R103). -/
  | writeSingleConfirm (addr : Byte) (index value : Word) (crcLo crcHi : Byte)
  /-- `WriteMultipleConfirm` (R104). -/
  | writeMultipleConfirm (addr : Byte) (start count : Word) (crcLo crcHi : Byte)
  /-- `Malformed` (R105, R102). -/
  | malformed (why : BadReply)
  /-- `Incomplete`: the buffer does not hold the whole frame its first bytes announce (R71, R115). -/
  | incomplete
  deriving DecidableEq, Repr

/-- Why the decoder answers no instruction. -/
inductive Reject where
  /-- A host command with a reserved operation code 0x0, 0xC, 0xD or 0xE (R73). -/
  | reservedCode (op : BitVec 4)
  /-- Fewer bits than the command's code and operands need (R72). -/
  | shortCommand
  /-- More bits than the command's code and operands need (R72). -/
  | longCommand
  /-- A received buffer that is `Malformed` (R105, R102). -/
  | malformed (why : BadReply)
  /-- A received buffer that is `Incomplete` (R71). -/
  | incomplete
  /-- An outbound frame whose function byte is not 0x03, 0x06 or 0x10 (R70). -/
  | unknownRequest
  /-- An outbound frame of a length its format does not have (R61). -/
  | requestLength
  /-- An outbound F-WS8 frame whose high index byte is not 0 (R63). -/
  | highIndexByte
  /-- An outbound F-WM frame whose byte count is not twice its count (R64). -/
  | requestByteCount
  /-- An outbound frame whose trailer is not the CRC of the bytes before it (R81). -/
  | requestCrc
  deriving DecidableEq, Repr

/-- The decoder's answer: an instruction, or the reason there is none. -/
inductive Decoded where
  | instr (i : Instr)
  | rejected (why : Reject)
  deriving DecidableEq, Repr

/-- The decoded instruction, if there is one. -/
def Decoded.instr? : Decoded → Option Instr
  | .instr i => some i
  | .rejected _ => none

end Sys2Proof
end

