-- ==== Sys2Proof/WellFormed.lean ====
section
/-! DEFINITION. Well-formed instructions: those an encoding of spec/30_encoding.md can carry. Every operand of a
fixed width is bounded by its type; the two frames with a list of words are bounded by their one-byte byte
count. -/

namespace Sys2Proof

/-- The most words a frame's one-byte byte count can announce: 2 * 127 = 254 (R64, R65). -/
abbrev maxFrameWords : Nat := 127

/-- The instruction can be encoded: a byte count of one byte counts its words (R64, R65). -/
def Instr.wellFormed : Instr → Bool
  | .wrmreq _ _ words => decide (words.length ≤ maxFrameWords)
  | .rdrpl _ values _ _ => decide (values.length ≤ maxFrameWords)
  | .rdreq _ _ _ | .wrsreq _ _ _ | .excrpl _ _ _ _ _ | .wrscnf _ _ _ _ _ | .wrmcnf _ _ _ _ _ => true
  | .rdc _ | .enq _ _ | .prq _ | .ppl | .pps _ _ | .rct | .frs _ | .sda _ | .spi _ | .sfl _ _ => true
  | .adv _ | .rst _ => true

/-- The instruction is a host operation (R72). -/
def Instr.isCommand : Instr → Bool
  | .rdc _ | .enq _ _ | .prq _ | .ppl | .pps _ _ | .rct | .frs _ | .sda _ | .spi _ | .sfl _ _ => true
  | .adv _ | .rst _ => true
  | .rdreq _ _ _ | .wrsreq _ _ _ | .wrmreq _ _ _ => false
  | .excrpl _ _ _ _ _ | .rdrpl _ _ _ _ | .wrscnf _ _ _ _ _ | .wrmcnf _ _ _ _ _ => false

/-- The instruction is a request frame, engine to slave (R61). -/
def Instr.isRequest : Instr → Bool
  | .rdreq _ _ _ | .wrsreq _ _ _ | .wrmreq _ _ _ => true
  | .excrpl _ _ _ _ _ | .rdrpl _ _ _ _ | .wrscnf _ _ _ _ _ | .wrmcnf _ _ _ _ _ => false
  | .rdc _ | .enq _ _ | .prq _ | .ppl | .pps _ _ | .rct | .frs _ | .sda _ | .spi _ | .sfl _ _ => false
  | .adv _ | .rst _ => false

/-- The instruction is a reply frame, slave to engine (R61). -/
def Instr.isReply : Instr → Bool
  | .excrpl _ _ _ _ _ | .rdrpl _ _ _ _ | .wrscnf _ _ _ _ _ | .wrmcnf _ _ _ _ _ => true
  | .rdreq _ _ _ | .wrsreq _ _ _ | .wrmreq _ _ _ => false
  | .rdc _ | .enq _ _ | .prq _ | .ppl | .pps _ _ | .rct | .frs _ | .sda _ | .spi _ | .sfl _ _ => false
  | .adv _ | .rst _ => false

/-- The instruction's payload, in bytes, is one a machine with that MAX_PAYLOAD accepts (R102). Only a read reply
has a limit of this kind. -/
def Instr.fitsPayload (maxPayload : Nat) : Instr → Bool
  | .rdrpl _ values _ _ => decide (2 * values.length ≤ maxPayload)
  | .rdreq _ _ _ | .wrsreq _ _ _ | .wrmreq _ _ _ => true
  | .excrpl _ _ _ _ _ | .wrscnf _ _ _ _ _ | .wrmcnf _ _ _ _ _ => true
  | .rdc _ | .enq _ _ | .prq _ | .ppl | .pps _ _ | .rct | .frs _ | .sda _ | .spi _ | .sfl _ _ => true
  | .adv _ | .rst _ => true

end Sys2Proof
end

