-- ==== Sys2Proof/Decode.lean ====
section
/-! DEFINITION. The decoders (received buffers R100 to R106, host commands R72, outbound frames R62 to R64), total
and rejecting by name, then the encoder written from the same formats, then the reading of an opcode-table
word (log entry 11). -/

namespace Sys2Proof

/-! ### Received buffers -/

/-- The length in bytes that a received frame needs, from its second and third byte (R71). -/
def need (fc b2 : Byte) : Nat :=
  if fc.getLsbD 7 then 5
  else if fc = 0x03#8 then 5 + b2.toNat
  else if fc = 0x06#8 then 8
  else if fc = 0x10#8 then 8
  else 5

/-- A read reply (R102): the byte count is judged before the length is compared. `b` is the whole buffer. -/
def decodeReadReply (maxPayload : Nat) (b : List Byte) (addr bc : Byte) : Reply :=
  if maxPayload < bc.toNat then .malformed .oversized
  else if bc.getLsbD 0 then .malformed .odd
  else if b.length < 5 + bc.toNat then .incomplete
  else
    .readReply addr (wordsOfBytes ((b.drop 3).take bc.toNat))
      (b.getD (3 + bc.toNat) 0) (b.getD (4 + bc.toNat) 0)

/-- A write-single confirm (R103), from the bytes after the function byte. -/
def decodeWriteSingle (addr : Byte) : List Byte → Reply
  | ih :: il :: vh :: vl :: lo :: hi :: _ => .writeSingleConfirm addr (be16 ih il) (be16 vh vl) lo hi
  | _ => .incomplete

/-- A write-multiple confirm (R104, layout R66), from the bytes after the function byte. -/
def decodeWriteMultiple (addr : Byte) : List Byte → Reply
  | sh :: sl :: ch :: cl :: lo :: hi :: _ => .writeMultipleConfirm addr (be16 sh sl) (be16 ch cl) lo hi
  | _ => .incomplete

/-- Classifies a received buffer: bit 7 of the function byte first, then the function code (R100, R69, R106). A
buffer below MIN_FRAME waits like an incomplete one (R143). Bytes past the frame are ignored (R71). -/
def decodeReply (maxPayload : Nat) (b : List Byte) : Reply :=
  match b with
  | addr :: fc :: b2 :: b3 :: b4 :: rest =>
    if fc.getLsbD 7 then .exception addr (fc.setWidth 7) b2 b3 b4
    else if fc = 0x03#8 then decodeReadReply maxPayload b addr b2
    else if fc = 0x06#8 then decodeWriteSingle addr (b2 :: b3 :: b4 :: rest)
    else if fc = 0x10#8 then decodeWriteMultiple addr (b2 :: b3 :: b4 :: rest)
    else .malformed .unknownFunction
  | _ => .incomplete

/-- The instruction a classified buffer is, or why it is none. -/
def Reply.decoded : Reply → Decoded
  | .exception addr orig code lo hi => .instr (.excrpl addr orig code lo hi)
  | .readReply addr values lo hi => .instr (.rdrpl addr values lo hi)
  | .writeSingleConfirm addr index value lo hi => .instr (.wrscnf addr index value lo hi)
  | .writeMultipleConfirm addr start count lo hi => .instr (.wrmcnf addr start count lo hi)
  | .malformed why => .rejected (.malformed why)
  | .incomplete => .rejected .incomplete

/-! ### Host commands -/

/-- A command whose operands have been read: no bit may be left over. -/
def finish (i : Instr) : List Bool → Decoded
  | [] => .instr i
  | _ :: _ => .rejected .longCommand

/-- A command with one operand field of `n` bits. -/
def operand1 (n : Nat) (bits : List Bool) (f : BitVec n → Instr) : Decoded :=
  match takeField n bits with
  | some (x, rest) => finish (f x) rest
  | none => .rejected .shortCommand

/-- A command with two operand fields. -/
def operand2 (n m : Nat) (bits : List Bool) (f : BitVec n → BitVec m → Instr) : Decoded :=
  match takeField n bits with
  | some (x, rest) => operand1 m rest (f x)
  | none => .rejected .shortCommand

/-- PPS: a bank selector and the 14 words (R72). -/
def operandBank (bits : List Bool) : Decoded :=
  match takeField 4 bits with
  | some (nr, rest) =>
    match takeBank rest with
    | some (w, rest') => finish (.pps nr w) rest'
    | none => .rejected .shortCommand
  | none => .rejected .shortCommand

/-- Decodes a host command: the 4-bit code, then the operands in the order of R72, most significant bit first. -/
def decodeCommand (bits : List Bool) : Decoded :=
  match takeField 4 bits with
  | none => .rejected .shortCommand
  | some (op, rest) =>
    if op = 0x1#4 then operand1 8 rest .rdc
    else if op = 0x2#4 then operand2 8 16 rest .enq
    else if op = 0x3#4 then operand1 4 rest .prq
    else if op = 0x4#4 then finish .ppl rest
    else if op = 0x5#4 then operandBank rest
    else if op = 0x6#4 then finish .rct rest
    else if op = 0x7#4 then operand1 32 rest .frs
    else if op = 0x8#4 then operand1 8 rest .sda
    else if op = 0x9#4 then operand1 32 rest .spi
    else if op = 0xA#4 then operand2 1 1 rest fun s r => .sfl (s.getLsbD 0) (r.getLsbD 0)
    else if op = 0xB#4 then operand1 32 rest .adv
    else if op = 0xF#4 then operand1 32 rest .rst
    else .rejected (.reservedCode op)

/-! ### Outbound frames: read back as the slave's side would (log entry 14) -/

/-- The body of an outbound frame, its CRC taken off (R62, R63, R64). -/
def decodeRequestBody : List Byte → Decoded
  | addr :: fc :: sh :: sl :: ch :: cl :: tail =>
    if fc = 0x03#8 then
      if tail = [] then .instr (.rdreq addr (be16 sh sl) (be16 ch cl)) else .rejected .requestLength
    else if fc = 0x06#8 then
      if tail ≠ [] then .rejected .requestLength
      else if sh ≠ 0#8 then .rejected .highIndexByte
      else .instr (.wrsreq addr sl (be16 ch cl))
    else if fc = 0x10#8 then
      match tail with
      | bc :: payload =>
        if bc.toNat ≠ 2 * (be16 ch cl).toNat then .rejected .requestByteCount
        else if payload.length ≠ bc.toNat then .rejected .requestLength
        else .instr (.wrmreq addr (be16 sh sl) (wordsOfBytes payload))
      | [] => .rejected .requestLength
    else .rejected .unknownRequest
  | _ => .rejected .requestLength

/-- Decodes an outbound frame: the trailer must be the CRC of the rest (R81, R82). -/
def decodeRequest (f : List Byte) : Decoded :=
  if crcCheck f then decodeRequestBody (f.take (f.length - 2)) else .rejected .requestCrc

/-- Decodes an image, for a machine with that MAX_PAYLOAD. -/
def decode (maxPayload : Nat) : Image → Decoded
  | .command bits => decodeCommand bits
  | .toSlave f => decodeRequest f
  | .toEngine f => (decodeReply maxPayload f).decoded

/-! ### The encoder -/

/-- The bytes of a request frame before its CRC (R62, R63, R64). -/
def rdreqBody (addr : Byte) (start count : Word) : List Byte :=
  [addr, 0x03#8, hi8 start, lo8 start, hi8 count, lo8 count]

/-- The bytes of a WRSREQ before its CRC: byte 2 is always 0 (R63, R91). -/
def wrsreqBody (addr idx : Byte) (val : Word) : List Byte :=
  [addr, 0x06#8, 0x00#8, idx, hi8 val, lo8 val]

/-- The bytes of a WRMREQ before its CRC: the count is the number of words, the byte count twice it (R64, R92). -/
def wrmreqBody (addr : Byte) (start : Word) (words : List Word) : List Byte :=
  [addr, 0x10#8, hi8 start, lo8 start, hi8 (BitVec.ofNat 16 words.length),
    lo8 (BitVec.ofNat 16 words.length), lo8 (BitVec.ofNat 16 (2 * words.length))] ++ bytesOfWords words

/-- A frame that is read back as an exception: bit 7 of the function byte set (R67). -/
def excrplFrame (addr : Byte) (orig : BitVec 7) (code lo hi : Byte) : List Byte :=
  [addr, 0x80#8 ||| orig.setWidth 8, code, lo, hi]

/-- A read-reply frame (R65). -/
def rdrplFrame (addr : Byte) (values : List Word) (lo hi : Byte) : List Byte :=
  [addr, 0x03#8, BitVec.ofNat 8 (2 * values.length)] ++ bytesOfWords values ++ [lo, hi]

/-- A confirm frame of format F-WS8 or F-REQ8: two 16-bit fields and two CRC bytes (R63, R66). -/
def confirmFrame (addr fc : Byte) (x y : Word) (lo hi : Byte) : List Byte :=
  [addr, fc, hi8 x, lo8 x, hi8 y, lo8 y, lo, hi]

/-- A command: the 4-bit code, then the operands' bits (R72). -/
def commandBits (op : BitVec 4) (operands : List Bool) : List Bool := bitsOf op ++ operands

/-- The encoding of an instruction (R62 to R67, R72). -/
def encode : Instr → Image
  | .rdreq addr start count => .toSlave (crcAppend (rdreqBody addr start count))
  | .wrsreq addr idx val => .toSlave (crcAppend (wrsreqBody addr idx val))
  | .wrmreq addr start words => .toSlave (crcAppend (wrmreqBody addr start words))
  | .excrpl addr orig code lo hi => .toEngine (excrplFrame addr orig code lo hi)
  | .rdrpl addr values lo hi => .toEngine (rdrplFrame addr values lo hi)
  | .wrscnf addr idx val lo hi => .toEngine (confirmFrame addr 0x06#8 idx val lo hi)
  | .wrmcnf addr start count lo hi => .toEngine (confirmFrame addr 0x10#8 start count lo hi)
  | .rdc idx => .command (commandBits 0x1#4 (bitsOf idx))
  | .enq idx val => .command (commandBits 0x2#4 (bitsOf idx ++ bitsOf val))
  | .prq nr => .command (commandBits 0x3#4 (bitsOf nr))
  | .ppl => .command (commandBits 0x4#4 [])
  | .pps nr w => .command (commandBits 0x5#4 (bitsOf nr ++ bitsOfBank w))
  | .rct => .command (commandBits 0x6#4 [])
  | .frs x => .command (commandBits 0x7#4 (bitsOf x))
  | .sda addr => .command (commandBits 0x8#4 (bitsOf addr))
  | .spi ms => .command (commandBits 0x9#4 (bitsOf ms))
  | .sfl skip norefresh => .command (commandBits 0xA#4 [skip, norefresh])
  | .adv now => .command (commandBits 0xB#4 (bitsOf now))
  | .rst now => .command (commandBits 0xF#4 (bitsOf now))

/-- The bits of an image on the host port; a frame has none there. -/
def Image.bits : Image → List Bool
  | .command bits => bits
  | .toSlave _ => []
  | .toEngine _ => []

/-- The bytes of a frame; a command has none. -/
def Image.bytes : Image → List Byte
  | .command _ => []
  | .toSlave f => f
  | .toEngine f => f

/-! ### Reading a word of the opcode table (log entry 11) -/

/-- The width in bits of the command with that code, 0 for a reserved code (R72, opcode_table.json). -/
def commandWidth (op : BitVec 4) : Nat :=
  if op = 0x1#4 then 12
  else if op = 0x2#4 then 28
  else if op = 0x3#4 then 8
  else if op = 0x4#4 then 4
  else if op = 0x5#4 then 232
  else if op = 0x6#4 then 4
  else if op = 0x7#4 then 36
  else if op = 0x8#4 then 12
  else if op = 0x9#4 then 36
  else if op = 0xA#4 then 6
  else if op = 0xB#4 then 36
  else if op = 0xF#4 then 36
  else 0

/-- Word `k` of a command of `width` bits, as bits in port order: the port's words have 4 bits, the last one what is
left of the width; word `k` of the table's number starts at bit `4 * k`. -/
def tableCommandWord (width w k : Nat) : List Bool :=
  let n := min 4 (width - 4 * k)
  (List.range n).map fun i => w.testBit (4 * k + (n - 1 - i))

/-- The command whose table number is `w`, as bits in port order. -/
def tableCommand (width w : Nat) : List Bool :=
  (List.range ((width + 3) / 4)).flatMap (tableCommandWord width w)

/-- Byte `k` of the frame whose table number is `w`: the table reads the first two bytes as byte0 * 256 + byte1, and a
later byte's bits count on from there. -/
def tableFrameByte (w k : Nat) : Byte :=
  if k = 0 then BitVec.ofNat 8 (w / 256)
  else if k = 1 then BitVec.ofNat 8 w
  else BitVec.ofNat 8 (w / 2 ^ (8 * k))

/-- The received frame whose table number is `w`, as long as its own bytes 1 and 2 announce (R71). -/
def tableFrame (w : Nat) : List Byte :=
  (List.range (need (tableFrameByte w 1) (tableFrameByte w 2))).map (tableFrameByte w)

/-- The image that a table number of `nbits` bits stands for: the host command whose code is in its low four bits,
if that code is one and the command fills `nbits`; else the received frame whose function byte is its low
eight bits. -/
def tableImage (nbits w : Nat) : Image :=
  let width := commandWidth (BitVec.ofNat 4 w)
  if width = 0 ∨ 8 * ((width + 7) / 8) < nbits then .toEngine (tableFrame w)
  else .command (tableCommand width w)

/-- The largest even byte count a read reply can carry (R65). -/
abbrev maxFramePayload : Nat := 254

/-- The instruction the decoder reads from the opcode table's word `w` of `nbits` bits. -/
def decodeTableWord (nbits w : Nat) : Option Instr := (decode maxFramePayload (tableImage nbits w)).instr?

end Sys2Proof
end

