-- ==== Sys2Proof/Machine/State.lean ====
section
/-! DEFINITION. The state of the machine: every piece of state of spec/10_state.md, the environment's three
(R31), and three fields of the model's own (the pending actions, the last result, the free-value counter). -/

namespace Sys2Proof.Machine

open Sys2Proof

/-- The reply classification (R16). -/
inductive RClass where
  | none
  | confirm
  | data
  deriving DecidableEq, Repr

/-- The pager's state (R28, R130). -/
inductive PpState where
  | send
  | wait
  deriving DecidableEq, Repr

/-- A queued single-register write (R27). -/
structure PendingWrite where
  idx : Byte
  val : Word
  deriving DecidableEq, Repr

/-- One action of an agent other than the engine's own tick logic: a line of a program (R74, R10). -/
inductive Action where
  /-- The host presents a command, `ADV` and `RST` among them, at the command port (R72). -/
  | command (bits : List Bool)
  /-- The transport appends bytes to the tail of RXQ (`RX: <bytes>`, R31, R74). -/
  | receive (bytes : List Byte)
  deriving DecidableEq, Repr

/-- What the last host operation returned (R72). MODEL's own: the spec's operations return values (log entry 5). -/
inductive Result where
  /-- Nothing: the operation has no result, or the code was reserved (R72, R73). -/
  | none
  /-- RDC's value (R120). -/
  | val (v : Word)
  /-- ENQ's, PRQ's and PPS's bit (R121, R131, R133). -/
  | ok (b : Bool)
  /-- PPL's answer: valid, bank number, words (R132). -/
  | preset (valid : Bool) (nr : BankNr) (w : Bank)
  /-- RCT's counter value (R155). -/
  | ctr (c : Count)
  /-- FRS's bit (R156). -/
  | fresh (b : Bool)
  deriving DecidableEq, Repr

/-- The machine's state. Fields in capitals in the docstrings are the spec's names. -/
structure State where
  /-- The OPEN parameters of rule R7, fixed for the machine (log entry 1). -/
  params : Config.Params
  /-- HREG[0 .. N_REGS-1]: the holding-register cache; its length is N_REGS (R11). -/
  hreg : List Word
  /-- PBUF[0 .. 13]: the preset-bank buffer (R12). -/
  pbuf : Bank
  /-- WQ_MEM[0 .. 15]: the write queue's slots (R27). -/
  wqMem : Vector PendingWrite 16
  /-- WQ_HEAD: the slot of the oldest entry (R27). -/
  wqHead : Fin 16
  /-- WQ_SIZE: entries queued, 0 to 16 (R27). -/
  wqSize : Fin 17
  /-- TXBUF[0 .. TXLEN-1]: the prepared frame; TXLEN is the length (R29, log entry 7). -/
  txbuf : List Byte
  /-- RXBUF[0 .. RXLEN-1]: the bytes received since the buffer was cleared; RXLEN is the length (R30, log entry 7). -/
  rxbuf : List Byte
  /-- AWAIT: a request is in flight (R14). -/
  await : Bool
  /-- REDIRECT: read-reply data go to PBUF (R15). -/
  redirect : Bool
  /-- RCLASS: what the last tick accepted (R16). -/
  rclass : RClass
  /-- RX_OURS: the accepted frame carried DEV_ADDR (R17). -/
  rxOurs : Bool
  /-- ERRFLAG: the decode-error flag (R18). -/
  errflag : Bool
  /-- EXC_VALID: an exception reply has been recorded (R19). -/
  excValid : Bool
  /-- EXC_CODE: its code (R19). -/
  excCode : Byte
  /-- DEV_ADDR (R20). -/
  devAddr : Byte
  /-- PACING_MS (R21). -/
  pacingMs : Time
  /-- SKIP_UNCHANGED (R22). -/
  skipUnchanged : Bool
  /-- REFRESH_DISABLE (R22). -/
  refreshDisable : Bool
  /-- REPLY_CTR: accepted frames plus timeouts, modulo 2^32 (R23). -/
  replyCtr : Count
  /-- RETRY: the retry budget (R24). -/
  retry : BitVec 3
  /-- T_LASTTX: `now` at the last transmission (R25). -/
  tLastTx : Time
  /-- T_COARSE: `now` at the last coarse tick (R26). -/
  tCoarse : Time
  /-- PP_STATE (R28). -/
  ppState : PpState
  /-- PP_SNAP: the reply counter recorded by PRQ (R28). -/
  ppSnap : Count
  /-- PP_NR: the bank of the last accepted PRQ (R28). -/
  ppNr : BankNr
  /-- PREQ_PENDING: a preset read is posted and not yet sent (R28). -/
  preqPending : Bool
  /-- RXQ: the transport's bytes not yet read, oldest first. The environment's (R31). -/
  rxq : List Byte
  /-- TXLOG: the transmitted frames with their times, oldest first. The environment's (R31). -/
  txlog : List (Time × List Byte)
  /-- `now` as the latest ADV or RST gave it. The environment's; the engine does not store it (R31, log entry 3). -/
  now : Time
  /-- MODEL's own: what the agents do next, first action first (log entry 4). -/
  agenda : List Action
  /-- MODEL's own: what the last host operation returned (log entry 5). -/
  result : Result
  /-- MODEL's own: how many resets have drawn free values; it indexes `Config.freeByte` (log entry 8). -/
  freeCount : Nat
  deriving DecidableEq, Repr

/-- Why the machine stops with a fault: never. "No condition is fatal to the driver" (R179), so the type is empty. -/
inductive Fault
  deriving DecidableEq, Repr

/-- Why a step is refused. -/
inductive Refusal where
  /-- Raised by no arm of `exec` at present: an instruction without a meaning. Safe: nothing runs. -/
  | notModelled (mnemonic : String)
  /-- Raised by `step` on a bit string at the command port that is too short or too long to be a command of rule R72,
  so is no instruction (log entry 13). Safe: nothing runs. -/
  | notACommand (why : Reject)
  deriving DecidableEq, Repr

/-- The contents of WQ_MEM that a reset leaves unspecified: the free values of the `k`-th draw (R27, U11, log
entry 8). -/
def unspecifiedQueue (k : Nat) : Vector PendingWrite 16 :=
  Vector.ofFn fun i : Fin 16 => ⟨Config.freeByte (16 * k + i.val), Config.freeWord (16 * k + i.val)⟩

/-- A machine of `n` registers right after `RST(now)`: the table of rule R36. Nothing is pending, received or sent. -/
def State.afterReset (n : Nat) (p : Config.Params) (now : Time) : State where
  params := p
  hreg := List.replicate n 0#16
  pbuf := Vector.replicate 14 0#16
  wqMem := unspecifiedQueue 0
  wqHead := 0
  wqSize := 0
  txbuf := []
  rxbuf := []
  await := false
  redirect := false
  rclass := .none
  rxOurs := false
  errflag := false
  excValid := false
  excCode := 0#8
  devAddr := p.devAddrReset
  pacingMs := Config.pacingResetMs
  skipUnchanged := false
  refreshDisable := false
  replyCtr := 0#32
  retry := p.timeoutTicks
  tLastTx := now
  tCoarse := now
  ppState := .send
  ppSnap := 0#32
  ppNr := 0#4
  preqPending := false
  rxq := []
  txlog := []
  now := now
  agenda := []
  result := .none
  freeCount := 1

/-- The machine right after reset (R36, R190), its parameters and the reset's time free (log entries 1, 2). -/
def State.reset : State := State.afterReset Config.nRegs Config.params Config.resetTime

end Sys2Proof.Machine
end

