-- ==== Sys2Proof/Machine/Operands.lean ====
section
/-! DEFINITION. The sizes that follow from N_REGS (R7) and how an instruction's operands reach the state: an 8-bit register index into the cache (R120), a
bank selector into the device's address space (R43), a counter snapshot (R156), a payload's words onto a
register file (R110), and the time difference the timers compare (R160). -/

namespace Sys2Proof.Machine

open Sys2Proof

/-- N_REGS: how many holding registers the machine has (R7, R11). -/
def State.nRegs (s : State) : Nat := s.hreg.length

/-- MAX_PAYLOAD: the largest accepted read-reply byte count (R7, R102). -/
def State.maxPayload (s : State) : Nat := 2 * max s.nRegs Config.bankWords

/-- RXBUF_CAP: the receive buffer's capacity in bytes (R7, R30). -/
def State.rxbufCap (s : State) : Nat := 5 + s.maxPayload

/-- RXLEN (R30). -/
def State.rxlen (s : State) : Nat := s.rxbuf.length

/-- TXLEN (R29). -/
def State.txlen (s : State) : Nat := s.txbuf.length

/-- RDC's function and the source's `get(index)`: the cached value, 0 outside the array (R120). -/
def cacheGet (s : State) (idx : Byte) : Word :=
  if idx.toNat < s.nRegs then s.hreg.getD idx.toNat 0#16 else 0#16

/-- BankAddr(nr): the device address of word 0 of a bank, modulo 2^16 (R43). -/
def bankAddr (p : Config.Params) (nr : BankNr) : Word := p.presetBase + nr.setWidth 16 * p.presetStride

/-- A selector that names one of the ten banks (R7, R131, R133). -/
def bankLegal (nr : BankNr) : Bool := decide (nr.toNat < Config.nBanks)

/-- The cache with the words of a read reply laid over it from index 0 (R110, R44). -/
def overlayRegs (values : List Word) (regs : List Word) : List Word :=
  regs.mapIdx fun i old => values.getD i old

/-- The preset buffer with the words of a read reply laid over it from index 0 (R110, R44). -/
def overlayBank (values : List Word) (bank : Bank) : Bank :=
  Vector.ofFn fun i : Fin 14 => values.getD i.val bank[i]

/-- The cache with one register written; an index outside the array writes nothing (R111). -/
def setReg (index : Word) (value : Word) (regs : List Word) : List Word :=
  if index.toNat < regs.length then regs.set index.toNat value else regs

/-- The time passed since a stamp, modulo 2^32 (R160). -/
def since (now stamp : Time) : Time := now - stamp

end Sys2Proof.Machine
end

