-- ==== Sys2Proof/Machine/Flags.lean ====
section
/-! DEFINITION. The flags and conditions the rules compute: the "ours" tag (R17), the per-tick flags (R141), the
transmit gate (R147), the coarse tick's condition (R145), freshness (R156), the pager's completion (R132), the
skip-unchanged test (R149), and the names of the exception codes (R171). -/

namespace Sys2Proof.Machine

open Sys2Proof

/-- The frame's address byte is the configured device address (R17, R109). -/
def oursTag (s : State) (addr : Byte) : Bool := addr == s.devAddr

/-- Phase 0: the reply classification and the "ours" tag are cleared at the start of every tick (R141). -/
def clearTickFlags (s : State) : State := { s with rclass := .none, rxOurs := false }

/-- The transmit gate: nothing in flight and the pacing interval has passed since the last transmission (R147). -/
def gateOpen (s : State) : Bool := !s.await && decide (s.pacingMs ≤ since s.now s.tLastTx)

/-- A coarse tick is due (R145). -/
def coarseDue (s : State) : Bool := decide (Config.coarseMs ≤ since s.now s.tCoarse)

/-- The reply counter has moved since a snapshot: tested as inequality (R156, R132, D21). -/
def counterMoved (s : State) (x : Count) : Bool := s.replyCtr != x

/-- The pager waits and the reply counter has moved since its request (R132). -/
def presetReady (s : State) : Bool := decide (s.ppState = .wait) && counterMoved s s.ppSnap

/-- The skip-unchanged test on a popped write (R149). -/
def skipWrite (s : State) (e : PendingWrite) : Bool := s.skipUnchanged && cacheGet s e.idx == e.val

/-- The ten named exception codes (R171). -/
inductive ExceptionName where
  | illegalFunction
  | illegalDataAddress
  | illegalDataValue
  | slaveDeviceFailure
  | acknowledge
  | slaveDeviceBusy
  | negativeAcknowledge
  | memoryParityError
  | gatewayPathUnavailable
  | gatewayTargetFailedToRespond
  deriving DecidableEq, Repr

/-- The name of an exception code; codes 0, 9 and 12 to 255 have none (R171, U6). The engine treats all alike. -/
def exceptionName (code : Byte) : Option ExceptionName :=
  match code.toNat with
  | 1 => some .illegalFunction
  | 2 => some .illegalDataAddress
  | 3 => some .illegalDataValue
  | 4 => some .slaveDeviceFailure
  | 5 => some .acknowledge
  | 6 => some .slaveDeviceBusy
  | 7 => some .negativeAcknowledge
  | 8 => some .memoryParityError
  | 10 => some .gatewayPathUnavailable
  | 11 => some .gatewayTargetFailedToRespond
  | _ => none

end Sys2Proof.Machine
end

