-- ==== Sys2Proof/Machine/Ops.lean ====
section
/-! DEFINITION. The named operations over the state that several rules share: the error events (R170), acceptance
(R109), the timeout (R146), the transmit primitive (R152), the queue's push and pop (R122, R123), the drain of
the transport (R142) and the result port. The engine has no trap and no return from one (R178, R179): an event
leaves its record and the phase goes on. -/

namespace Sys2Proof.Machine

open Sys2Proof

/-- Hands a host operation's result to the host (R72, log entry 5). -/
def setResult (r : Result) (s : State) : State := { s with result := r }

/-- The five error events (R170). -/
inductive Event where
  /-- A received buffer was classified `Malformed` (R114). -/
  | decodeError
  /-- An exception reply was received (R113). -/
  | deviceException (code : Byte)
  /-- The retry budget reached 0 with a request in flight (R146). -/
  | responseTimeout
  /-- ENQ on a full queue; the result `ok = 0` is the whole event (R121). -/
  | queueFull
  /-- A received frame's CRC does not match: never detected (R83). -/
  | unverifiedCrc
  deriving DecidableEq, Repr

/-- `raise E`: exactly the records of the event (R170), as R113, R114 and R146 write them. Control goes nowhere. -/
def raise (e : Event) (s : State) : State :=
  match e with
  | .decodeError => { s with errflag := true }
  | .deviceException code => { s with excValid := true, excCode := code }
  | .responseTimeout => { s with await := false, redirect := false, replyCtr := s.replyCtr + 1 }
  | .queueFull => s
  | .unverifiedCrc => s

/-- Accept(): what every accepted frame does besides its own rule; `addr` is its byte 0 (R109). -/
def accept (addr : Byte) (s : State) : State :=
  { s with
    rxOurs := oursTag s addr
    errflag := false
    await := false
    replyCtr := s.replyCtr + 1
    rxbuf := [] }

/-- The buffer is dropped (R114). -/
def clearRx (s : State) : State := { s with rxbuf := [] }

/-- Timeout(): the event, then the budget reloaded and the receive buffer cleared (R146). -/
def timeout (s : State) : State :=
  { raise .responseTimeout s with retry := s.params.timeoutTicks, rxbuf := [] }

/-- Transmit(now, f): the whole frame handed to the transport (R152, R182). -/
def transmit (f : List Byte) (s : State) : State :=
  { s with
    txlog := s.txlog ++ [(s.now, f)]
    await := true
    tLastTx := s.now
    rxbuf := [] }

/-- The slot of queue position `p`, 0 the oldest (R27). -/
def queueSlot (s : State) (p : Nat) : Nat := (s.wqHead.val + p) % 16

/-- The entry at queue position `p` (R27). -/
def queueAt (s : State) (p : Nat) : PendingWrite := s.wqMem[queueSlot s p]'(Nat.mod_lt _ (by decide))

/-- The queue's entries, oldest first: what a host can learn of it (R27). -/
def queueList (s : State) : List PendingWrite := (List.range s.wqSize.val).map (queueAt s)

/-- WQ.push: the entry becomes the youngest; none, with no change, when the queue is full (R122). -/
def push (e : PendingWrite) (s : State) : Option State :=
  if h : s.wqSize.val < 16 then
    some { s with
      wqMem := s.wqMem.set (queueSlot s s.wqSize.val) e (Nat.mod_lt _ (by decide))
      wqSize := ⟨s.wqSize.val + 1, by omega⟩ }
  else none

/-- WQ.pop: the oldest entry; none, with no change, when the queue is empty (R123). -/
def pop (s : State) : Option (PendingWrite × State) :=
  if s.wqSize.val = 0 then none
  else some (queueAt s 0, { s with
    wqHead := ⟨(s.wqHead.val + 1) % 16, Nat.mod_lt _ (by decide)⟩
    wqSize := ⟨s.wqSize.val - 1, by omega⟩ })

/-- One byte into the receive buffer, dropped if the buffer is full (R142). -/
def appendRx (cap : Nat) (buf : List Byte) (b : Byte) : List Byte := if buf.length < cap then buf ++ [b] else buf

/-- Phase 1a: every byte the transport has is read, in arrival order (R142). -/
def drain (s : State) : State := { s with rxbuf := s.rxq.foldl (appendRx s.rxbufCap) s.rxbuf, rxq := [] }

/-- The transport appends bytes to the tail of RXQ (R10, R31). -/
def deliver (bytes : List Byte) (s : State) : State := { s with rxq := s.rxq ++ bytes }

end Sys2Proof.Machine
end

