-- ==== Sys2Proof/Machine/Cache.lean ====
section
/-! DEFINITION. The register cache and write queue operations (spec/43_cache_queue.md): RDC and ENQ. -/

namespace Sys2Proof.Machine

open Sys2Proof

/-- RDC: the cached value, 0 outside the array; nothing is written (R120). -/
def execRdc (idx : Byte) (s : State) : Host.Outcome State Fault Refusal :=
  .next (setResult (.val (cacheGet s idx)) s)

/-- ENQ: the pair becomes the youngest entry, `ok = 1`; on a full queue `QueueFull`, which is `ok = 0` (R121). -/
def execEnq (idx : Byte) (val : Word) (s : State) : Host.Outcome State Fault Refusal :=
  match push ⟨idx, val⟩ s with
  | some t => .next (setResult (.ok true) t)
  | none => .next (setResult (.ok false) (raise .queueFull s))

end Sys2Proof.Machine
end

