-- ==== Sys2Proof/Machine/Request.lean ====
section
/-! DEFINITION. The request frames (spec/41_frame_encode.md): the three encoders, which put DEV_ADDR in byte 0, and
the meanings of RDREQ, WRSREQ and WRMREQ: the frame is transmitted (MemRead, MemWrite of section 5.2, R152; log
entry 9). -/

namespace Sys2Proof.Machine

open Sys2Proof

/-- EncRead(start, count) (R90, R93). -/
def encRead (s : State) (start count : Word) : List Byte := crcAppend (rdreqBody s.devAddr start count)

/-- EncWriteSingle(idx, val) (R91, R93). -/
def encWriteSingle (s : State) (idx : Byte) (val : Word) : List Byte := crcAppend (wrsreqBody s.devAddr idx val)

/-- EncWriteMultiple(start, count, w) with count the number of words (R92, R93). -/
def encWriteMultiple (s : State) (start : Word) (words : List Word) : List Byte :=
  crcAppend (wrmreqBody s.devAddr start words)

/-- RDREQ: the frame with that address byte is transmitted (R90, R152). -/
def execRdreq (addr : Byte) (start count : Word) (s : State) : Host.Outcome State Fault Refusal :=
  .next (transmit (crcAppend (rdreqBody addr start count)) s)

/-- WRSREQ: the frame with that address byte is transmitted (R91, R152). -/
def execWrsreq (addr : Byte) (idx : Byte) (val : Word) (s : State) : Host.Outcome State Fault Refusal :=
  .next (transmit (crcAppend (wrsreqBody addr idx val)) s)

/-- WRMREQ: the frame with that address byte is transmitted (R92, R148, R152). -/
def execWrmreq (addr : Byte) (start : Word) (words : List Word) (s : State) : Host.Outcome State Fault Refusal :=
  .next (transmit (crcAppend (wrmreqBody addr start words)) s)

end Sys2Proof.Machine
end

