-- ==== Sys2Proof/Machine/Pager.lean ====
section
/-! DEFINITION. The preset pager's operations (spec/44_preset_pager.md): PRQ, PPL, PPS. The completion test is the
coarse one the source describes (C8, R195). -/

namespace Sys2Proof.Machine

open Sys2Proof

/-- An accepted PRQ: the request is posted, the counter recorded (R131). -/
def postPreset (nr : BankNr) (s : State) : State :=
  { s with ppNr := nr, ppSnap := s.replyCtr, preqPending := true, ppState := .wait }

/-- A completing PPL: redirect and posted request cleared, back to Send (R132). -/
def finishPreset (s : State) : State := { s with redirect := false, preqPending := false, ppState := .send }

/-- The prepared frame in the transmit slot, replacing any that waits (R133). -/
def prepare (f : List Byte) (s : State) : State := { s with txbuf := f }

/-- PRQ: valid in Send for a bank 0 to 9, else `ok = 0` and no change (R131). -/
def execPrq (nr : BankNr) (s : State) : Host.Outcome State Fault Refusal :=
  if s.ppState ≠ .send ∨ bankLegal nr = false then .next (setResult (.ok false) s)
  else .next (setResult (.ok true) (postPreset nr s))

/-- PPL: on completion the bank number and the words of PBUF; else `valid = 0` and no change (R132). -/
def execPpl (s : State) : Host.Outcome State Fault Refusal :=
  if presetReady s then .next (setResult (.preset true s.ppNr s.pbuf) (finishPreset s))
  else .next (setResult (.preset false 0#4 (Vector.replicate 14 0#16)) s)

/-- PPS: the write-multiple frame is built now and waits in the transmit slot; a selector above 9 is refused (R133). -/
def execPps (nr : BankNr) (w : Bank) (s : State) : Host.Outcome State Fault Refusal :=
  if bankLegal nr then
    .next (setResult (.ok true) (prepare (encWriteMultiple s (bankAddr s.params nr) w.toList) s))
  else .next (setResult (.ok false) s)

end Sys2Proof.Machine
end

