-- ==== Sys2Proof/Machine/Reset.lean ====
section
/-! DEFINITION. Reset (spec/70_reset_and_hazards.md): RST. -/

namespace Sys2Proof.Machine

open Sys2Proof

/-- RESET(now): every piece of the engine's state takes its value of rule R36; RXQ and TXLOG are not touched (R190).
The parameters and the size of the register file are the machine's (R7); the pending actions are the agents'
(log entry 4); the contents of WQ_MEM are free values of a fresh draw (log entry 8). -/
def resetEngine (now : Time) (s : State) : State :=
  { State.afterReset s.nRegs s.params now with
    wqMem := unspecifiedQueue s.freeCount
    rxq := s.rxq
    txlog := s.txlog
    agenda := s.agenda
    freeCount := s.freeCount + 1 }

/-- RST (R190). It returns nothing (R72). -/
def execRst (now : Time) (s : State) : Host.Outcome State Fault Refusal := .next (resetEngine now s)

end Sys2Proof.Machine
end

