-- ==== Sys2Proof/Machine/Receive.lean ====
section
/-! DEFINITION. The reply frames (spec/42_frame_decode.md): the routing of each outcome of the decoder, and the
meanings of EXCRPL, RDRPL, WRSCNF and WRMCNF: what classifying and routing a buffer that holds the frame does
(R143; log entry 10). The CRC bytes have no effect (R108), nor has an exception's original function (R101). -/

namespace Sys2Proof.Machine

open Sys2Proof

/-- RouteException (R113). RCLASS and REDIRECT stay. -/
def routeException (addr code : Byte) (s : State) : State := accept addr (raise (.deviceException code) s)

/-- RouteReadReply (R110): under REDIRECT the words land in PBUF, else in the cache; the redirect is cleared. -/
def routeReadReply (addr : Byte) (values : List Word) (s : State) : State :=
  accept addr
    (if s.redirect then { s with rclass := .data, pbuf := overlayBank values s.pbuf, redirect := false }
     else { s with rclass := .data, hreg := overlayRegs values s.hreg, redirect := false })

/-- RouteWriteSingle (R111): always to the cache. -/
def routeWriteSingle (addr : Byte) (index value : Word) (s : State) : State :=
  accept addr { s with rclass := .confirm, hreg := setReg index value s.hreg }

/-- RouteWriteMultiple (R112): no cache is written; start and count are dropped. -/
def routeWriteMultiple (addr : Byte) (s : State) : State := accept addr { s with rclass := .confirm }

/-- RouteMalformed (R114): the flag is set, the buffer dropped, nothing else. -/
def routeMalformed (s : State) : State := clearRx (raise .decodeError s)

/-- Route(r) (R109 to R115). -/
def route (r : Reply) (s : State) : State :=
  match r with
  | .exception addr _ code _ _ => routeException addr code s
  | .readReply addr values _ _ => routeReadReply addr values s
  | .writeSingleConfirm addr index value _ _ => routeWriteSingle addr index value s
  | .writeMultipleConfirm addr _ _ _ _ => routeWriteMultiple addr s
  | .malformed _ => routeMalformed s
  | .incomplete => s

/-- Phase 1b: at least MIN_FRAME bytes are classified and routed, once (R143). -/
def classify (s : State) : State :=
  if Config.minFrame ≤ s.rxlen then route (decodeReply s.maxPayload s.rxbuf) s else s

/-- EXCRPL (R101, R113). -/
def execExcrpl (addr : Byte) (_orig : BitVec 7) (code _crcLo _crcHi : Byte) (s : State) :
    Host.Outcome State Fault Refusal :=
  .next (routeException addr code s)

/-- RDRPL (R102, R110): a byte count above MAX_PAYLOAD makes the frame `Malformed` (R114). -/
def execRdrpl (addr : Byte) (values : List Word) (_crcLo _crcHi : Byte) (s : State) :
    Host.Outcome State Fault Refusal :=
  .next (if s.maxPayload < 2 * values.length then routeMalformed s else routeReadReply addr values s)

/-- WRSCNF (R103, R111). -/
def execWrscnf (addr : Byte) (idx val : Word) (_crcLo _crcHi : Byte) (s : State) :
    Host.Outcome State Fault Refusal :=
  .next (routeWriteSingle addr idx val s)

/-- WRMCNF (R104, R112). -/
def execWrmcnf (addr : Byte) (_start _count : Word) (_crcLo _crcHi : Byte) (s : State) :
    Host.Outcome State Fault Refusal :=
  .next (routeWriteMultiple addr s)

end Sys2Proof.Machine
end

