-- ==== Sys2Proof/Machine/Scheduler.lean ====
section
/-! DEFINITION. The transaction scheduler (spec/45_scheduler.md): the tick's four phases and ADV, the freshness query
RCT and FRS, the configuration operations SDA, SPI and SFL. -/

namespace Sys2Proof.Machine

open Sys2Proof

/-- The environment's time is the operand of the tick (R31, R140, log entry 3). -/
def setNow (now : Time) (s : State) : State := { s with now := now }

/-- Phase 0 (R141). -/
def phase0 (s : State) : State := clearTickFlags s

/-- Phase 1: drain, then classify (R142, R143). -/
def phase1 (s : State) : State := classify (drain s)

/-- Phase 2a: the budget is full whenever nothing is outstanding (R144). -/
def reload (s : State) : State := if s.await then s else { s with retry := s.params.timeoutTicks }

/-- The coarse tick's decrement while a request is outstanding, and the timeout when it reaches 0 (R145). The
decrement wraps in the 3 bits of RETRY (R9, log entry 16). -/
def spend (s : State) : State :=
  if s.retry - 1 = 0#3 then timeout { s with retry := s.retry - 1 } else { s with retry := s.retry - 1 }

/-- The coarse tick is stamped (R145). -/
def stampCoarse (s : State) : State := { s with tCoarse := s.now }

/-- Phase 2b: at most one coarse tick (R145). -/
def coarse (s : State) : State :=
  if coarseDue s then
    if s.await then spend (stampCoarse s) else stampCoarse s
  else s

/-- Phase 2 (R144, R145, R146). -/
def phase2 (s : State) : State := coarse (reload s)

/-- The transmit slot is emptied (R148). -/
def takeSlot (s : State) : State := { s with txbuf := [] }

/-- Priority 1: the prepared frame goes out byte for byte (R148). -/
def priority1 (s : State) : State := transmit s.txbuf (takeSlot s)

/-- Priority 2: one queued write is popped; an unchanged one is discarded, which uses up the opportunity (R149). -/
def priority2 (s : State) : State :=
  match pop s with
  | some (e, t) => if skipWrite t e then t else transmit (encWriteSingle t e.idx e.val) t
  | none => s

/-- The posted preset read is being sent: its data will be redirected (R150). -/
def takePreset (s : State) : State := { s with preqPending := false, redirect := true }

/-- Priority 3: the preset read (R150). -/
def priority3 (s : State) : State :=
  transmit (encRead s (bankAddr s.params s.ppNr) (BitVec.ofNat 16 Config.bankWords)) (takePreset s)

/-- Priority 4: the periodic refresh of the whole register map (R151). -/
def priority4 (s : State) : State := transmit (encRead s 0#16 (BitVec.ofNat 16 s.nRegs)) s

/-- Phase 3: the gate, then the first of the four priorities that has work (R147). -/
def phase3 (s : State) : State :=
  if gateOpen s then
    if 0 < s.txlen then priority1 s
    else if 0 < s.wqSize.val then priority2 s
    else if s.preqPending then priority3 s
    else if s.refreshDisable then s
    else priority4 s
  else s

/-- ADVANCE(now): the four phases in their fixed order (R140). -/
def advance (now : Time) (s : State) : State := phase3 (phase2 (phase1 (phase0 (setNow now s))))

/-- ADV (R140). -/
def execAdv (now : Time) (s : State) : Host.Outcome State Fault Refusal := .next (setResult .none (advance now s))

/-- RCT: the reply counter (R155). -/
def execRct (s : State) : Host.Outcome State Fault Refusal := .next (setResult (.ctr s.replyCtr) s)

/-- FRS: has the counter moved since the snapshot (R156). -/
def execFrs (x : Count) (s : State) : Host.Outcome State Fault Refusal :=
  .next (setResult (.fresh (counterMoved s x)) s)

/-- SDA: the device address of the frames built from now on (R157). -/
def execSda (addr : Byte) (s : State) : Host.Outcome State Fault Refusal :=
  .next (setResult .none { s with devAddr := addr })

/-- SPI: the pacing interval; the last transmission's stamp stays (R158). -/
def execSpi (ms : Time) (s : State) : Host.Outcome State Fault Refusal :=
  .next (setResult .none { s with pacingMs := ms })

/-- SFL: both feature flags (R159). -/
def execSfl (skip norefresh : Bool) (s : State) : Host.Outcome State Fault Refusal :=
  .next (setResult .none { s with skipUnchanged := skip, refreshDisable := norefresh })

end Sys2Proof.Machine
end

