-- ==== Sys2Proof/Machine/Dispatch.lean ====
section
/-! DEFINITION. One arm per instruction, each one call of its meaning. -/

namespace Sys2Proof.Machine

open Sys2Proof

def exec (i : Instr) (s : State) : Host.Outcome State Fault Refusal :=
  match i with
  -- request frames, spec/41_frame_encode.md
  | .rdreq addr start count => Sys2Proof.Machine.execRdreq addr start count s
  | .wrsreq addr idx val => Sys2Proof.Machine.execWrsreq addr idx val s
  | .wrmreq addr start words => Sys2Proof.Machine.execWrmreq addr start words s
  -- reply frames, spec/42_frame_decode.md
  | .excrpl addr orig code crcLo crcHi => Sys2Proof.Machine.execExcrpl addr orig code crcLo crcHi s
  | .rdrpl addr values crcLo crcHi => Sys2Proof.Machine.execRdrpl addr values crcLo crcHi s
  | .wrscnf addr idx val crcLo crcHi => Sys2Proof.Machine.execWrscnf addr idx val crcLo crcHi s
  | .wrmcnf addr start count crcLo crcHi => Sys2Proof.Machine.execWrmcnf addr start count crcLo crcHi s
  -- host operations, spec/43_cache_queue.md to spec/70_reset_and_hazards.md
  | .rdc idx => Sys2Proof.Machine.execRdc idx s
  | .enq idx val => Sys2Proof.Machine.execEnq idx val s
  | .prq nr => Sys2Proof.Machine.execPrq nr s
  | .ppl => Sys2Proof.Machine.execPpl s
  | .pps nr w => Sys2Proof.Machine.execPps nr w s
  | .rct => Sys2Proof.Machine.execRct s
  | .frs x => Sys2Proof.Machine.execFrs x s
  | .sda addr => Sys2Proof.Machine.execSda addr s
  | .spi ms => Sys2Proof.Machine.execSpi ms s
  | .sfl skip norefresh => Sys2Proof.Machine.execSfl skip norefresh s
  | .adv now => Sys2Proof.Machine.execAdv now s
  | .rst now => Sys2Proof.Machine.execRst now s

end Sys2Proof.Machine
end

