-- ==== Sys2Proof/Machine/Fetch.lean ====
section
/-! DEFINITION. How the next action is fetched and run: the engine has no program counter (R13); what happens next is
the next action of the agents (R10, R51, log entry 4). -/

namespace Sys2Proof.Machine

open Sys2Proof

/-- The agents' next action is taken (log entry 4). -/
def takeAction (rest : List Action) (s : State) : State := { s with agenda := rest }

/-- A command of a reserved code: no state changes and nothing is returned (R73, U9). -/
def ignoreCommand (s : State) : State := setResult .none s

/-- Runs a decoded command. A bit string that is too short or too long is no command (log entry 13). The remaining
cases are reasons about frames, which the command decoder does not give. -/
def runDecoded (d : Decoded) (s : State) : Host.Outcome State Fault Refusal :=
  match d with
  | .instr i => exec i s
  | .rejected (.reservedCode _) => .next (ignoreCommand s)
  | .rejected .shortCommand => .refused (.notACommand .shortCommand)
  | .rejected .longCommand => .refused (.notACommand .longCommand)
  | .rejected why => .refused (.notACommand why)

/-- One action of one agent, whole (R10, R51). -/
def runAction (a : Action) (s : State) : Host.Outcome State Fault Refusal :=
  match a with
  | .command bits => runDecoded (decodeCommand bits) s
  | .receive bytes => .next (deliver bytes s)

/-- The next pending action; with none pending nothing happens ("If `ADV` is not called, nothing happens at all", R208). -/
def fetchAndRun (s : State) : Host.Outcome State Fault Refusal :=
  match s.agenda with
  | [] => .next s
  | a :: rest => runAction a (takeAction rest s)

/-- The image placed so that the very next action runs it (log entry 11): a command is the host's next action; a
received frame is all the transport holds, the receive buffer is empty, and the host's next action is a tick at
the present time, whose phase 1 classifies and routes the frame (R143). A request frame leaves the engine and is
never fetched (R61). -/
def placeImage (im : Image) (s : State) : State :=
  match im with
  | .command bits => { s with agenda := .command bits :: s.agenda }
  | .toEngine f =>
    { s with rxbuf := [], rxq := f, agenda := .command (encode (.adv s.now)).bits :: s.agenda }
  | .toSlave _ => s

end Sys2Proof.Machine
end

