-- ==== Sys2Proof/Machine/Step.lean ====
section
/-! DEFINITION. One step: one whole action of one agent. -/

namespace Sys2Proof.Machine

open Sys2Proof

/-- One atomic action of one agent (R10, R51). -/
def step (s : State) : Host.Outcome State Fault Refusal := fetchAndRun s

/-- The state with an opcode-table word placed where the next step fetches (log entry 11). -/
def State.withFetchWord (s : State) (nbits w : Nat) : State := placeImage (tableImage nbits w) s

end Sys2Proof.Machine
end

