-- ==== Sys2Proof/Safety.lean ====
section
/-! DEFINITION. What the rules promise of every state (R34 and its derivation), and the words the statements use for
a run's frames and times. -/

namespace Sys2Proof.Machine

open Sys2Proof

/-- The invariants of rule R34 but for its clause on REDIRECT, which speaks of the past (`RedirectHasSource`), with
N_REGS in the range of R7, the budget full while nothing is outstanding (R144, R146) and the last transmission
stamped while a request is in flight (R152). -/
abbrev Inv (s : State) : Prop :=
  (1 ≤ s.hreg.length ∧ s.hreg.length ≤ 127) ∧
  s.rxbuf.length ≤ s.rxbufCap ∧
  (s.txbuf.length = 0 ∨ s.txbuf.length = 37) ∧
  (1 ≤ s.retry.toNat ∧ s.retry.toNat ≤ s.params.timeoutTicks.toNat) ∧
  s.ppNr.toNat ≤ 9 ∧
  (s.preqPending = true → s.ppState = .wait) ∧
  (s.await = false → s.retry = s.params.timeoutTicks) ∧
  (s.await = true → s.txlog.getLast?.map Prod.fst = some s.tLastTx)

/-- The frame is the encoding of a well-formed request frame (R61, R83). -/
def IsRequestFrame (f : List Byte) : Prop :=
  ∃ i : Instr, i.isRequest = true ∧ i.wellFormed = true ∧ encode i = .toSlave f

/-- Everything transmitted, and whatever waits in the transmit slot, is a request frame with its CRC (R83, R70). -/
def SendsOnlyRequests (s : State) : Prop :=
  (∀ e ∈ s.txlog, IsRequestFrame e.2) ∧ (s.txbuf = [] ∨ IsRequestFrame s.txbuf)

/-- The past that REDIRECT speaks of in rule R34: the read of a preset bank has been transmitted. -/
def RedirectHasSource (s : State) : Prop :=
  s.redirect = true →
    ∃ (t : Time) (addr : Byte) (nr : BankNr),
      nr.toNat ≤ 9 ∧ (t, crcAppend (rdreqBody addr (bankAddr s.params nr) 14#16)) ∈ s.txlog

/-- Each time is at least one coarse period after the one before, modulo 2^32 (R145, R160). -/
def Spaced : Time → List Time → Prop
  | _, [] => True
  | before, now :: later => Config.coarseMs ≤ now - before ∧ Spaced now later

/-- The ticks at these times, one after the other, with nothing in between. -/
def ticks (times : List Time) (s : State) : State := times.foldl (fun s now => advance now s) s

/-- The action that the next step runs is this instruction. -/
def NextIs (s : State) (i : Instr) : Prop :=
  ∃ bits rest, s.agenda = .command bits :: rest ∧ decodeCommand bits = .instr i

end Sys2Proof.Machine
end

