-- ==== Sys2Proof/Certificates/Slice0/Obligations.lean ====
section
/-! DEFINITION. The statements for the provers. Each says which rules of spec/ it formalises; where a clause is the
model's own choice, its docstring names the log entry. A host operation's returned value stands in the state's field
`result` (log entry 5). -/

open Sys2Proof Sys2Proof.Machine

/-! ### The step and the agents -/

/-- R51, R10, R72: a command at the head of the pending actions that decodes to an instruction is executed whole, on
the state with that action taken. The queue of pending actions is the model's (log entry 4). -/
def Obligations.StepRunsDecodedCommand : Prop :=
  ∀ (s : State) (bits : List Bool) (rest : List Action) (i : Instr),
    s.agenda = .command bits :: rest → decodeCommand bits = .instr i →
      step s = exec i { s with agenda := rest }

/-- R73: a command of code 0x0, 0xC, 0xD or 0xE, whatever bits follow the code, changes no state and returns nothing;
only the model's own fields move (log entries 4, 5). -/
def Obligations.ReservedCommandChangesNothing : Prop :=
  ∀ (s : State) (op : BitVec 4) (operands : List Bool) (rest : List Action),
    (op = 0x0#4 ∨ op = 0xC#4 ∨ op = 0xD#4 ∨ op = 0xE#4) →
      s.agenda = .command (bitsOf op ++ operands) :: rest →
        step s = .next { s with agenda := rest, result := .none }

/-- R31, R10, R208: the transport only appends bytes to the tail of RXQ; with no action pending nothing happens. The
queue of pending actions is the model's (log entry 4). -/
def Obligations.TransportAndIdleSteps : Prop :=
  (∀ (s : State) (bytes : List Byte) (rest : List Action), s.agenda = .receive bytes :: rest →
    step s = .next { s with agenda := rest, rxq := s.rxq ++ bytes }) ∧
  (∀ s : State, s.agenda = [] → step s = .next s)

/-- R72, R73 and log entry 13: the only step that is refused is one whose bit string is too short or too long to be a
command; it has one of the twelve codes, or no whole code at all. -/
def Obligations.StepRefusesOnlyNonCommands : Prop :=
  ∀ (s : State) (r : Refusal), step s = .refused r →
    ∃ bits rest, s.agenda = .command bits :: rest ∧
      (r = .notACommand .shortCommand ∧ decodeCommand bits = .rejected .shortCommand ∨
        r = .notACommand .longCommand ∧ decodeCommand bits = .rejected .longCommand) ∧
      ∀ op : BitVec 4, bits.take 4 = bitsOf op → op ≠ 0x0#4 ∧ op ≠ 0xC#4 ∧ op ≠ 0xD#4 ∧ op ≠ 0xE#4

/-! ### Encodings -/

/-- R72: every host operation's command decodes to it, with every operand at every value, and a bit string that decodes
to an operation is that operation's one encoding: no bit of it is dropped. -/
def Obligations.CommandEncodingRoundTrip : Prop :=
  (∀ (maxPayload : Nat) (i : Instr), i.isCommand = true → decode maxPayload (encode i) = .instr i) ∧
  (∀ (bits : List Bool) (i : Instr), decodeCommand bits = .instr i →
    i.isCommand = true ∧ encode i = .command bits)

/-- R62, R63, R64, R81: every well-formed request frame is read back from its encoding, CRC included, and bytes that are
read as a request are its one encoding. The reading of a request is the model's, for the slave's side (log entry 14). -/
def Obligations.RequestEncodingRoundTrip : Prop :=
  (∀ (maxPayload : Nat) (i : Instr), i.isRequest = true → i.wellFormed = true →
    decode maxPayload (encode i) = .instr i) ∧
  (∀ (f : List Byte) (i : Instr), decodeRequest f = .instr i →
    i.isRequest = true ∧ i.wellFormed = true ∧ encode i = .toSlave f)

/-- R65, R66, R63, R67, R71: every well-formed reply frame whose payload the machine accepts is read back from a buffer
that begins with its encoding, whatever bytes follow it. -/
def Obligations.ReplyDecodesFromItsEncoding : Prop :=
  ∀ (maxPayload : Nat) (i : Instr) (f trailing : List Byte),
    i.isReply = true → i.wellFormed = true → i.fitsPayload maxPayload = true → encode i = .toEngine f →
      (decodeReply maxPayload (f ++ trailing)).decoded = .instr i

/-- R69, R71: a buffer that is classified as a frame begins with that frame's encoding, as long as its second and third
byte announce, and at least MIN_FRAME bytes are buffered. -/
def Obligations.AcceptedBufferBeginsWithItsFrame : Prop :=
  ∀ (maxPayload : Nat) (b : List Byte) (i : Instr),
    (decodeReply maxPayload b).decoded = .instr i →
      i.isReply = true ∧ i.wellFormed = true ∧ i.fitsPayload maxPayload = true ∧ 5 ≤ b.length ∧
        need (b.getD 1 0) (b.getD 2 0) ≤ b.length ∧
        encode i = .toEngine (b.take (need (b.getD 1 0) (b.getD 2 0)))

/-- R69, R105, and R100, R101, R103, R104, R106 (layout R66): with at least five bytes buffered, bit 7 of the function
byte decides first; else function 0x03 is a read reply or malformed by its byte count or incomplete; 0x06 and 0x10 are
confirms of two 16-bit fields, incomplete below eight bytes; any other code is `Malformed`, and no other buffer is for
that reason. -/
def Obligations.FunctionByteSelectsTheVariant : Prop :=
  ∀ (maxPayload : Nat) (addr fc b2 b3 b4 : Byte) (rest : List Byte),
    let r := decodeReply maxPayload (addr :: fc :: b2 :: b3 :: b4 :: rest)
    (fc.msb = true → r = .exception addr (fc.setWidth 7) b2 b3 b4) ∧
    (fc.msb = false →
      ((r = .malformed .unknownFunction ↔ fc ≠ 0x03#8 ∧ fc ≠ 0x06#8 ∧ fc ≠ 0x10#8) ∧
       (fc = 0x03#8 → r = .malformed .oversized ∨ r = .malformed .odd ∨ r = .incomplete ∨
          ∃ values lo hi, r = .readReply addr values lo hi) ∧
       (fc = 0x06#8 → r =
          if h : rest.length < 3 then .incomplete
          else .writeSingleConfirm addr (be16 b2 b3) (be16 b4 rest[0]) rest[1] rest[2]) ∧
       (fc = 0x10#8 → r =
          if h : rest.length < 3 then .incomplete
          else .writeMultipleConfirm addr (be16 b2 b3) (be16 b4 rest[0]) rest[1] rest[2])))

/-- R102, R106: a read reply's byte count is judged before its length: above MAX_PAYLOAD it is oversized, else an odd one
is odd, else the frame is incomplete until 5 + bc bytes are there, else it carries the bc / 2 words spelled high byte
first. MAX_PAYLOAD is twice the larger of N_REGS and 14. -/
def Obligations.ReadReplyByteCountRules : Prop :=
  (∀ s : State, s.maxPayload = 2 * max s.hreg.length 14) ∧
  ∀ (maxPayload : Nat) (addr bc b3 b4 : Byte) (rest : List Byte),
    let b := addr :: 0x03#8 :: bc :: b3 :: b4 :: rest
    decodeReply maxPayload b =
      if maxPayload < bc.toNat then .malformed .oversized
      else if bc.toNat % 2 = 1 then .malformed .odd
      else if rest.length < bc.toNat then .incomplete
      else .readReply addr
        ((List.range (bc.toNat / 2)).map fun i => be16 (b.getD (3 + 2 * i) 0) (b.getD (4 + 2 * i) 0))
        (b.getD (3 + bc.toNat) 0) (b.getD (4 + bc.toNat) 0)

/-- R71, R115: a buffer of at least five bytes waits exactly when it is not malformed and shorter than it needs; a full
receive buffer never waits. -/
def Obligations.IncompleteExactlyBelowNeed : Prop :=
  (∀ (maxPayload : Nat) (b : List Byte), 5 ≤ b.length →
    (decodeReply maxPayload b = .incomplete ↔
      (∀ why, decodeReply maxPayload b ≠ .malformed why) ∧ b.length < need (b.getD 1 0) (b.getD 2 0))) ∧
  (∀ s : State, s.rxbuf.length = s.rxbufCap → decodeReply s.maxPayload s.rxbuf ≠ .incomplete)

/-- R62, R63, R65, R66, R67, R72: a few words written out bit by bit from the formats decode to what they stand for.
The reading of the request among them is the model's, for the slave's side: the engine never decodes one (log
entry 14). -/
def Obligations.WrittenOutWordsDecode : Prop :=
  decodeReply 62 [0x01, 0x86, 0x03, 0x02, 0x61] = .exception 0x01 0x06 0x03 0x02 0x61 ∧
  decodeReply 62 [0x01, 0x03, 0x04, 0x04, 0xB0, 0x01, 0xF4, 0xFA, 0xF3]
    = .readReply 0x01 [0x04B0, 0x01F4] 0xFA 0xF3 ∧
  decodeReply 62 [0x01, 0x06, 0x00, 0x00, 0x04, 0xB0, 0x8A, 0xBE]
    = .writeSingleConfirm 0x01 0x0000 0x04B0 0x8A 0xBE ∧
  decodeReply 62 [0x01, 0x10, 0x00, 0x70, 0x00, 0x0E, 0x40, 0x16]
    = .writeMultipleConfirm 0x01 0x0070 0x000E 0x40 0x16 ∧
  decodeRequest [0x01, 0x03, 0x00, 0x00, 0x00, 0x1F, 0x04, 0x02] = .instr (.rdreq 0x01 0x0000 0x001F) ∧
  decodeCommand [false, false, false, true, false, false, false, true, false, false, true, false]
    = .instr (.rdc 0x12) ∧
  decodeCommand [true, false, true, false, true, false] = .instr (.sfl true false)

/-! ### The CRC unit -/

/-- R84: the table-driven form computes the same function as the bit-serial one of R80, with the three table entries the
rule gives. The spec marks the equality as derived. -/
def Obligations.TableDrivenCrcAgrees : Prop :=
  (∀ s : List Byte, crc16Table s = crc16 s) ∧
  crcTable 0x00 = 0x0000 ∧ crcTable 0x01 = 0xC0C1 ∧ crcTable 0xFF = 0x4040

/-- R82: the validator compares the CRC of all but the last two bytes with the word those spell, low byte first; it
accepts exactly the sequences whose CRC over everything, trailer included, is zero, and every sequence that `CrcAppend`
made. The spec marks the last two as derived. -/
def Obligations.ValidatorIsZeroResidue : Prop :=
  (∀ f : List Byte, 2 ≤ f.length →
    crcCheck f = decide (crc16 (f.take (f.length - 2)) = be16 (f.getD (f.length - 1) 0) (f.getD (f.length - 2) 0))) ∧
  (∀ f : List Byte, 2 ≤ f.length → (crcCheck f = true ↔ crc16 f = 0#16)) ∧
  (∀ body : List Byte, crcCheck (crcAppend body) = true)

/-! ### Request frames -/

/-- R90, R91, R92, R93, R152: executing a request frame hands the whole frame, its fields high byte first and its CRC low
byte first, to the transport at the present time, awaits a response, restarts the pacing interval and clears the
receive buffer; nothing else changes. That a request frame is executed by transmitting it, with the frame's own
address byte and without asking the transmit gate, is the model's choice (log entry 9). -/
def Obligations.RequestFrameIsTransmitted : Prop :=
  ∀ (s : State) (addr idx : Byte) (x y : Word) (words : List Word),
    exec (.rdreq addr x y) s = .next { s with
      txlog := s.txlog ++ [(s.now, crcAppend [addr, 0x03, hi8 x, lo8 x, hi8 y, lo8 y])]
      await := true, tLastTx := s.now, rxbuf := [] } ∧
    exec (.wrsreq addr idx y) s = .next { s with
      txlog := s.txlog ++ [(s.now, crcAppend [addr, 0x06, 0x00, idx, hi8 y, lo8 y])]
      await := true, tLastTx := s.now, rxbuf := [] } ∧
    exec (.wrmreq addr x words) s = .next { s with
      txlog := s.txlog ++ [(s.now, crcAppend ([addr, 0x10, hi8 x, lo8 x, hi8 (BitVec.ofNat 16 words.length),
        lo8 (BitVec.ofNat 16 words.length), lo8 (BitVec.ofNat 16 (2 * words.length))] ++
        words.flatMap fun w => [hi8 w, lo8 w]))]
      await := true, tLastTx := s.now, rxbuf := [] }

/-- R147 to R152: a closed gate does nothing; at an open gate the first work in the order prepared frame, queued write,
preset read, refresh is what phase 3 does. Every transmission appends the frame, built with the present device address
but for a prepared one, at the present time, awaits a response, restarts the pacing interval and clears the receive
buffer; a skipped write transmits nothing and lets no lower priority in. The spec marks three clauses as derived: AWAIT = 0
in the gate (R147), that a discard leaves T_LASTTX and AWAIT (R149), and start 0 and count N_REGS (R151). -/
def Obligations.TransmitOpportunityTakesFirstPriority : Prop :=
  ∀ s : State,
    (s.await = true ∨ s.now - s.tLastTx < s.pacingMs → phase3 s = s) ∧
    (s.await = false → s.pacingMs ≤ s.now - s.tLastTx →
      (s.txbuf ≠ [] → phase3 s = { s with
        txbuf := [], txlog := s.txlog ++ [(s.now, s.txbuf)], await := true, tLastTx := s.now, rxbuf := [] }) ∧
      (s.txbuf = [] → 0 < s.wqSize.val →
        ∃ (e : PendingWrite) (t : State), pop s = some (e, t) ∧
          (s.skipUnchanged = true ∧ cacheGet s e.idx = e.val → phase3 s = t) ∧
          (¬(s.skipUnchanged = true ∧ cacheGet s e.idx = e.val) → phase3 s = { t with
            txlog := s.txlog ++ [(s.now, crcAppend [s.devAddr, 0x06, 0x00, e.idx, hi8 e.val, lo8 e.val])]
            await := true, tLastTx := s.now, rxbuf := [] })) ∧
      (s.txbuf = [] → s.wqSize.val = 0 → s.preqPending = true → phase3 s = { s with
        preqPending := false, redirect := true
        txlog := s.txlog ++ [(s.now, crcAppend [s.devAddr, 0x03, hi8 (bankAddr s.params s.ppNr),
          lo8 (bankAddr s.params s.ppNr), 0x00, 0x0E])]
        await := true, tLastTx := s.now, rxbuf := [] }) ∧
      (s.txbuf = [] → s.wqSize.val = 0 → s.preqPending = false → s.refreshDisable = false → phase3 s = { s with
        txlog := s.txlog ++ [(s.now, crcAppend [s.devAddr, 0x03, 0x00, 0x00,
          hi8 (BitVec.ofNat 16 s.hreg.length), lo8 (BitVec.ofNat 16 s.hreg.length)])]
        await := true, tLastTx := s.now, rxbuf := [] }) ∧
      (s.txbuf = [] → s.wqSize.val = 0 → s.preqPending = false → s.refreshDisable = true → phase3 s = s))

/-- R149, R150, R151, R90, R91: what phase 3 transmits for a queued write, a posted preset read and the refresh is the
execution of that request frame; the frame that PPS prepares, transmitted, is the execution of the write-multiple
frame. So the meanings of the three request frames are what a run does with them (log entry 9). -/
def Obligations.TransmissionExecutesItsRequestFrame : Prop :=
  (∀ s : State, s.await = false → s.pacingMs ≤ s.now - s.tLastTx → s.txbuf = [] →
    (∀ (e : PendingWrite) (t : State), pop s = some (e, t) → s.skipUnchanged = false →
      exec (.wrsreq s.devAddr e.idx e.val) t = .next (phase3 s)) ∧
    (s.wqSize.val = 0 → s.preqPending = true →
      exec (.rdreq s.devAddr (bankAddr s.params s.ppNr) 14)
        { s with preqPending := false, redirect := true } = .next (phase3 s)) ∧
    (s.wqSize.val = 0 → s.preqPending = false → s.refreshDisable = false →
      exec (.rdreq s.devAddr 0 (BitVec.ofNat 16 s.hreg.length)) s = .next (phase3 s))) ∧
  (∀ (s t : State) (nr : BankNr) (w : Bank), exec (.pps nr w) s = .next t → nr.toNat ≤ 9 →
    t.await = false → t.pacingMs ≤ t.now - t.tLastTx →
      exec (.wrmreq s.devAddr (bankAddr s.params nr) w.toList) { t with txbuf := [] } = .next (phase3 t))

/-! ### Reply frames -/

/-- R101, R113, R109, R172: an exception reply records its code, whatever it is and whatever the original function was, is
accepted, and leaves REDIRECT, RCLASS and the caches alone. -/
def Obligations.ExceptionReplyIsRecorded : Prop :=
  ∀ (s : State) (addr : Byte) (orig : BitVec 7) (code lo hi : Byte),
    exec (.excrpl addr orig code lo hi) s = .next { s with
      excValid := true, excCode := code
      rxOurs := decide (addr = s.devAddr), errflag := false, await := false
      replyCtr := s.replyCtr + 1, rxbuf := [] }

/-- R110, R109, R44: an accepted read reply puts word i at index i of PBUF under REDIRECT, of the cache otherwise, keeps
every entry beyond the reply, drops words beyond the destination, clears REDIRECT, and is accepted. -/
def Obligations.ReadReplyLandsByRedirect : Prop :=
  ∀ (s : State) (addr : Byte) (values : List Word) (lo hi : Byte), 2 * values.length ≤ s.maxPayload →
    ∃ t : State, exec (.rdrpl addr values lo hi) s = .next t ∧
      t = { s with
        hreg := t.hreg, pbuf := t.pbuf, rclass := .data, redirect := false
        rxOurs := decide (addr = s.devAddr), errflag := false, await := false
        replyCtr := s.replyCtr + 1, rxbuf := [] } ∧
      t.hreg.length = s.hreg.length ∧
      (s.redirect = true → t.hreg = s.hreg ∧
        ∀ k : Fin 14, t.pbuf[k] = if h : k.val < values.length then values[k.val] else s.pbuf[k]) ∧
      (s.redirect = false → t.pbuf = s.pbuf ∧
        ∀ k : Nat, k < s.hreg.length →
          t.hreg[k]? = if k < values.length then values[k]? else s.hreg[k]?)

/-- R102, R114: a read reply whose payload is above MAX_PAYLOAD sets the decode-error flag and drops the buffer, and
changes nothing else. -/
def Obligations.OversizedReadReplyIsDropped : Prop :=
  ∀ (s : State) (addr : Byte) (values : List Word) (lo hi : Byte), s.maxPayload < 2 * values.length →
    exec (.rdrpl addr values lo hi) s = .next { s with errflag := true, rxbuf := [] }

/-- R103, R111, R109: a write-single confirm writes its value to the cache, whatever REDIRECT says, and writes nothing for
an index outside the array; it is accepted either way. -/
def Obligations.WriteSingleConfirmUpdatesCache : Prop :=
  ∀ (s : State) (addr : Byte) (idx val : Word) (lo hi : Byte),
    ∃ t : State, exec (.wrscnf addr idx val lo hi) s = .next t ∧
      t = { s with
        hreg := t.hreg, rclass := .confirm
        rxOurs := decide (addr = s.devAddr), errflag := false, await := false
        replyCtr := s.replyCtr + 1, rxbuf := [] } ∧
      (s.hreg.length ≤ idx.toNat → t.hreg = s.hreg) ∧
      (idx.toNat < s.hreg.length → t.hreg[idx.toNat]? = some val) ∧
      t.hreg.length = s.hreg.length ∧
      ∀ k : Nat, k ≠ idx.toNat → t.hreg[k]? = s.hreg[k]?

/-- R104, R112, R109: a write-multiple confirm is classified and accepted, and writes no register and no PBUF entry. -/
def Obligations.WriteMultipleConfirmWritesNoCache : Prop :=
  ∀ (s : State) (addr : Byte) (start count : Word) (lo hi : Byte),
    exec (.wrmcnf addr start count lo hi) s = .next { s with
      rclass := .confirm
      rxOurs := decide (addr = s.devAddr), errflag := false, await := false
      replyCtr := s.replyCtr + 1, rxbuf := [] }

/-- R142: the drain takes every byte the transport has, in arrival order, and drops those that do not fit. -/
def Obligations.DrainKeepsArrivalOrder : Prop :=
  ∀ s : State, s.rxbuf.length ≤ s.rxbufCap →
    drain s = { s with rxbuf := (s.rxbuf ++ s.rxq).take s.rxbufCap, rxq := [] }

/-- R143, R100, R109: when the bytes buffered and waiting begin with a reply frame the machine accepts, and the frame fits,
the receive phase of the tick does what executing that frame does, on the drained state. -/
def Obligations.ReceivePhaseRunsTheFrame : Prop :=
  ∀ (s : State) (i : Instr) (f trailing : List Byte),
    i.isReply = true → i.wellFormed = true → i.fitsPayload s.maxPayload = true → encode i = .toEngine f →
      s.rxbuf.length ≤ s.rxbufCap → s.rxbuf ++ s.rxq = f ++ trailing →
        exec i { s with rxbuf := (f ++ trailing).take s.rxbufCap, rxq := [] } = .next (phase1 s)

/-- R140, R143: a step whose command is ADV, on bytes buffered and waiting that begin with a reply frame the machine accepts,
clears the per-tick flags, executes that frame, and then runs phases 2 and 3. So the meanings of the four reply frames
are what a run does with them (log entry 10). -/
def Obligations.StepRunsReceivedFrame : Prop :=
  ∀ (s : State) (i : Instr) (f trailing : List Byte) (now : Time) (bits : List Bool) (rest : List Action),
    i.isReply = true → i.wellFormed = true → i.fitsPayload s.maxPayload = true → encode i = .toEngine f →
      s.rxbuf.length ≤ s.rxbufCap → s.rxbuf ++ s.rxq = f ++ trailing →
      s.agenda = .command bits :: rest → decodeCommand bits = .instr (.adv now) →
        ∃ u : State,
          exec i { s with
            agenda := rest, now := now, rclass := .none, rxOurs := false
            rxbuf := (f ++ trailing).take s.rxbufCap, rxq := [] } = .next u ∧
          step s = .next { phase3 (phase2 u) with result := .none }

/-- R114, R115, R143: a malformed buffer sets ERRFLAG and is dropped, and nothing else changes; an incomplete one, or one
below MIN_FRAME, changes nothing. -/
def Obligations.MalformedAndIncompleteBuffers : Prop :=
  ∀ s : State,
    (s.rxbuf.length < 5 → classify s = s) ∧
    (5 ≤ s.rxbuf.length → decodeReply s.maxPayload s.rxbuf = .incomplete → classify s = s) ∧
    (∀ why, 5 ≤ s.rxbuf.length → decodeReply s.maxPayload s.rxbuf = .malformed why →
      classify s = { s with errflag := true, rxbuf := [] })

/-- R108, R83, U1: two whole frames that differ only in the two CRC bytes, and in bytes past the frame, have the same
effect. -/
def Obligations.ReceivedCrcHasNoEffect : Prop :=
  ∀ (s : State) (b c : List Byte),
    5 ≤ b.length → 5 ≤ c.length →
    need (b.getD 1 0) (b.getD 2 0) ≤ b.length → need (b.getD 1 0) (b.getD 2 0) ≤ c.length →
    b.take (need (b.getD 1 0) (b.getD 2 0) - 2) = c.take (need (b.getD 1 0) (b.getD 2 0) - 2) →
      classify { s with rxbuf := b } = classify { s with rxbuf := c }

/-- R107, R17, U2: two buffers that differ only in the address byte have the same effect but for the "ours" tag. -/
def Obligations.AddressByteOnlySetsTheTag : Prop :=
  ∀ (s : State) (a b : Byte) (tail : List Byte),
    { classify { s with rxbuf := a :: tail } with rxOurs := false, rxbuf := [] } =
      { classify { s with rxbuf := b :: tail } with rxOurs := false, rxbuf := [] }

/-! ### Cache and queue -/

/-- R120, R155, R156, R57: RDC (host code 0x1) returns the register, 0 outside the array; RCT (0x6) the reply counter; FRS
(0x7) whether it differs from the snapshot; none of them writes any state but the returned value (log entry 5). -/
def Obligations.HostReadsReturnAndWriteNothing : Prop :=
  ∀ (s : State) (idx : Byte) (x : Count),
    encode (.rdc idx) = .command (bitsOf 0x1#4 ++ bitsOf idx) ∧ encode .rct = .command (bitsOf 0x6#4) ∧
    encode (.frs x) = .command (bitsOf 0x7#4 ++ bitsOf x) ∧
    exec (.rdc idx) s = .next { s with
      result := .val (if h : idx.toNat < s.hreg.length then s.hreg[idx.toNat] else 0) } ∧
    exec .rct s = .next { s with result := .ctr s.replyCtr } ∧
    exec (.frs x) s = .next { s with result := .fresh (decide (s.replyCtr ≠ x)) }

/-- R122, R123: the circular buffer is a bounded FIFO: a push on fewer than 16 entries writes the slot after the last,
modulo 16, and so appends the youngest, on 16 it fails; a pop gives the oldest and leaves the rest, on an empty queue it
fails; neither touches other state. Which steps push and pop is `QueueChangesOneEntryAtATime`. -/
def Obligations.CircularBufferRefinesFifo : Prop :=
  (∀ (s : State) (e : PendingWrite), (queueList s).length < 16 →
    ∃ t, push e s = some t ∧ queueList t = queueList s ++ [e] ∧
      t = { s with wqMem := t.wqMem, wqSize := t.wqSize } ∧ t.wqSize.val = s.wqSize.val + 1 ∧
      ∀ k : Fin 16, t.wqMem[k] = if k.val = (s.wqHead.val + s.wqSize.val) % 16 then e else s.wqMem[k]) ∧
  (∀ (s : State) (e : PendingWrite), (queueList s).length = 16 → push e s = none) ∧
  (∀ s : State, queueList s = [] → pop s = none) ∧
  (∀ (s : State) (e : PendingWrite) (l : List PendingWrite), queueList s = e :: l →
    ∃ t, pop s = some (e, t) ∧ queueList t = l ∧ t = { s with wqHead := t.wqHead, wqSize := t.wqSize } ∧
      e = s.wqMem[s.wqHead] ∧ t.wqHead.val = (s.wqHead.val + 1) % 16 ∧ t.wqSize.val + 1 = s.wqSize.val)

/-- R121: ENQ (host code 0x2) appends the pair and returns 1, or returns 0 on a queue of 16 entries with no other change; it never writes
the cache and never checks the index. -/
def Obligations.EnqAppendsOrRefuses : Prop :=
  ∀ (s : State) (idx : Byte) (val : Word),
    encode (.enq idx val) = .command (bitsOf 0x2#4 ++ bitsOf idx ++ bitsOf val) ∧
    ((queueList s).length < 16 →
      ∃ t, exec (.enq idx val) s = .next t ∧ queueList t = queueList s ++ [⟨idx, val⟩] ∧
        t = { s with wqMem := t.wqMem, wqSize := t.wqSize, result := .ok true }) ∧
    ((queueList s).length = 16 → exec (.enq idx val) s = .next { s with result := .ok false })

/-- R52, R111 and the source's property S2: a tick that receives a write-single confirm for a register of the array, with
any CRC, makes RDC return the confirmed value. -/
def Obligations.ConfirmedWriteIsReadBack : Prop :=
  ∀ (s : State) (now : Time) (addr idx : Byte) (val : Word) (lo hi : Byte),
    idx.toNat < s.hreg.length → s.rxbuf = [] →
    encode (.wrscnf addr (idx.setWidth 16) val lo hi) = .toEngine s.rxq →
      ∃ t u, exec (.adv now) s = .next t ∧ exec (.rdc idx) t = .next u ∧ u.result = .val val ∧
        t.replyCtr = s.replyCtr + 1 ∧ t.rclass = .confirm

/-! ### Preset pager -/

/-- R43: the bank's device address is base plus selector times stride, modulo 2^16. -/
def Obligations.BankAddressIsAffineModulo : Prop :=
  ∀ (p : Config.Params) (nr : BankNr),
    (bankAddr p nr).toNat = (p.presetBase.toNat + nr.toNat * p.presetStride.toNat) % 2 ^ 16

/-- R131: in Send with a bank 0 to 9, PRQ (host code 0x3) records the bank and the counter, posts the request, enters Wait and returns 1;
else it returns 0 and changes nothing. -/
def Obligations.PrqPostsOrRefuses : Prop :=
  ∀ (s : State) (nr : BankNr),
    encode (.prq nr) = .command (bitsOf 0x3#4 ++ bitsOf nr) ∧
    (s.ppState = .send → nr.toNat ≤ 9 →
      exec (.prq nr) s = .next { s with
        ppNr := nr, ppSnap := s.replyCtr, preqPending := true, ppState := .wait, result := .ok true }) ∧
    (s.ppState = .wait ∨ 9 < nr.toNat → exec (.prq nr) s = .next { s with result := .ok false })

/-- R132: in Wait with a moved counter, PPL (host code 0x4) returns the bank number and the 14 words and clears the redirect and the
posted request; else it returns valid = 0 and changes nothing. -/
def Obligations.PplCompletesOnAnyCounterMove : Prop :=
  encode .ppl = .command (bitsOf 0x4#4) ∧
  ∀ s : State,
    (s.ppState = .wait → s.replyCtr ≠ s.ppSnap →
      exec .ppl s = .next { s with
        redirect := false, preqPending := false, ppState := .send, result := .preset true s.ppNr s.pbuf }) ∧
    (s.ppState = .send ∨ s.replyCtr = s.ppSnap →
      exec .ppl s = .next { s with result := .preset false 0 (Vector.replicate 14 0) })

/-- R133, R92: PPS (host code 0x5) builds the 37-byte write-multiple frame with the present device address and puts it in the transmit
slot, replacing what waits there; a selector above 9 is refused with no change. -/
def Obligations.PpsPreparesTheFrame : Prop :=
  ∀ (s : State) (nr : BankNr) (w : Bank),
    encode (.pps nr w) = .command (bitsOf 0x5#4 ++ bitsOf nr ++ w.toList.flatMap bitsOf) ∧
    (nr.toNat ≤ 9 →
      ∃ f : List Byte,
        f = crcAppend ([s.devAddr, 0x10, hi8 (bankAddr s.params nr), lo8 (bankAddr s.params nr), 0x00, 0x0E, 0x1C] ++
          w.toList.flatMap fun v => [hi8 v, lo8 v]) ∧
        f.length = 37 ∧
        exec (.pps nr w) s = .next { s with txbuf := f, result := .ok true }) ∧
    (9 < nr.toNat → exec (.pps nr w) s = .next { s with result := .ok false })

/-- R134 and the source's property S5: a posted preset read that leaves at an opportunity, is answered by a 14-word read
reply with no other frame or timeout between, and is polled, returns the bank number and those words. -/
def Obligations.PresetReadReturnsTheReplyWords : Prop :=
  ∀ (s : State) (nr : BankNr) (w : Bank) (sent answered : Time) (addr lo hi : Byte) (f : List Byte),
    s.ppState = .send → nr.toNat ≤ 9 → s.await = false → s.pacingMs ≤ sent - s.tLastTx →
    s.txbuf = [] → s.wqSize.val = 0 → s.rxq = [] → s.rxbuf.length < 5 →
    encode (.rdrpl addr w.toList lo hi) = .toEngine f →
      ∃ s1 s2 s3 s4, exec (.prq nr) s = .next s1 ∧ exec (.adv sent) s1 = .next s2 ∧
        s2.txlog = s.txlog ++ [(sent, crcAppend (rdreqBody s.devAddr (bankAddr s.params nr) 14))] ∧
        exec (.adv answered) { s2 with rxq := f } = .next s3 ∧ exec .ppl s3 = .next s4 ∧
        s4.result = .preset true nr w ∧ s4.ppState = .send ∧ s4.redirect = false ∧ s4.hreg = s.hreg

/-! ### The tick -/

/-- R140, R141: one ADV (host code 0xB) is the four phases in their fixed order, phase 0 clearing the two per-tick flags,
at the operand's time, and returns nothing. -/
def Obligations.AdvRunsFourPhases : Prop :=
  ∀ (s : State) (now : Time),
    encode (.adv now) = .command (bitsOf 0xB#4 ++ bitsOf now) ∧
    exec (.adv now) s =
      .next { phase3 (phase2 (phase1 { s with now := now, rclass := .none, rxOurs := false })) with
        result := .none }

/-- R144, R145, R146: the budget is full whenever nothing is outstanding; a due coarse tick is stamped and, with a request
outstanding, takes one from the budget; at 0 the request is abandoned: AWAIT and REDIRECT cleared, the counter
advanced, the budget reloaded, the receive buffer dropped, and nothing else touched. R160 applies RETRY - 1 only when
RETRY is at least 1; that a budget of 0, which no reachable state has, wraps to 7 is the model's inference (log
entry 16). -/
def Obligations.RetryBudgetAndTimeout : Prop :=
  ∀ s : State,
    (s.await = false → s.now - s.tCoarse < 10 → phase2 s = { s with retry := s.params.timeoutTicks }) ∧
    (s.await = false → 10 ≤ s.now - s.tCoarse →
      phase2 s = { s with retry := s.params.timeoutTicks, tCoarse := s.now }) ∧
    (s.await = true → s.now - s.tCoarse < 10 → phase2 s = s) ∧
    (s.await = true → 10 ≤ s.now - s.tCoarse → s.retry ≠ 1 →
      phase2 s = { s with retry := s.retry - 1, tCoarse := s.now }) ∧
    (s.await = true → 10 ≤ s.now - s.tCoarse → s.retry = 1 →
      phase2 s = { s with
        tCoarse := s.now, await := false, redirect := false, replyCtr := s.replyCtr + 1
        retry := s.params.timeoutTicks, rxbuf := [] })

/-- R208, R145, R146 and the source's property S4: with a request outstanding, no bytes arriving and ticks at least one
coarse period apart, the request stays in flight until as many ticks as the budget holds have passed; the last of them
abandons it, clears the receive buffer, advances the reply counter exactly once, and at most then transmits the next
request. The buffer may hold the beginning of a frame: fewer than five bytes, or an `Incomplete` frame (R115); its bytes
wait until that timeout clears them. -/
def Obligations.SilentRequestTimesOutAfterTheBudget : Prop :=
  ∀ (s : State) (times : List Time),
    s.await = true → s.rxq = [] →
    (s.rxbuf.length < 5 ∨ decodeReply s.maxPayload s.rxbuf = .incomplete) →
    times.length = s.retry.toNat → times ≠ [] → Spaced s.tCoarse times →
      (∀ k, k < times.length →
        (ticks (times.take k) s).await = true ∧ (ticks (times.take k) s).replyCtr = s.replyCtr ∧
        (ticks (times.take k) s).txlog = s.txlog ∧ (ticks (times.take k) s).rxbuf = s.rxbuf) ∧
      (ticks times s).replyCtr = s.replyCtr + 1 ∧ (ticks times s).retry = s.params.timeoutTicks ∧
      (ticks times s).rxbuf = [] ∧
      ((ticks times s).await = false ∧ (ticks times s).txlog = s.txlog ∨
        (ticks times s).await = true ∧
          ∃ f, (ticks times s).txlog = s.txlog ++ [((ticks times s).now, f)])

/-- R191, R190, R151: after any RST, whatever the machine was doing and whatever waits in RXQ, the first tick at least
PACING_MS (50 ms) after it transmits the refresh of the whole register map; an earlier tick transmits nothing. Either
tick drains the bytes that were waiting at the reset and classifies and routes them like any others. -/
def Obligations.FirstFrameAfterResetIsTheRefresh : Prop :=
  ∀ (s : State) (start now : Time),
    ∃ u t : State, exec (.rst start) s = .next u ∧ exec (.adv now) u = .next t ∧
      (50 ≤ now - start → t.await = true ∧ t.tLastTx = now ∧ t.rxbuf = [] ∧
        t.txlog = s.txlog ++ [(now, crcAppend [s.params.devAddrReset, 0x03, 0x00, 0x00,
          hi8 (BitVec.ofNat 16 s.hreg.length), lo8 (BitVec.ofNat 16 s.hreg.length)])]) ∧
      (now - start < 50 → t.await = false ∧ t.tLastTx = start ∧ t.txlog = s.txlog) ∧
      t.rxq = [] ∧
      ∃ v : State, v = classify { u with now := now, rxbuf := s.rxq.take s.rxbufCap, rxq := [] } ∧
        (now - start < 50 → t.rxbuf = v.rxbuf) ∧
        t.hreg = v.hreg ∧ t.pbuf = v.pbuf ∧ t.rclass = v.rclass ∧ t.rxOurs = v.rxOurs ∧
        t.errflag = v.errflag ∧ t.excValid = v.excValid ∧ t.excCode = v.excCode ∧ t.replyCtr = v.replyCtr

/-! ### Configuration, reset -/

/-- R157, R158, R159: each configuration operation (host codes 0x8, 0x9, 0xA) writes its own registers, whatever the value,
and nothing else. -/
def Obligations.ConfigurationWritesItsRegisters : Prop :=
  ∀ (s : State) (addr : Byte) (ms : Time) (skip norefresh : Bool),
    encode (.sda addr) = .command (bitsOf 0x8#4 ++ bitsOf addr) ∧
    encode (.spi ms) = .command (bitsOf 0x9#4 ++ bitsOf ms) ∧
    encode (.sfl skip norefresh) = .command (bitsOf 0xA#4 ++ [skip, norefresh]) ∧
    exec (.sda addr) s = .next { s with devAddr := addr, result := .none } ∧
    exec (.spi ms) s = .next { s with pacingMs := ms, result := .none } ∧
    exec (.sfl skip norefresh) s = .next { s with
      skipUnchanged := skip, refreshDisable := norefresh, result := .none }

/-- R190, R36: RST (host code 0xF) gives every piece of state the value of the table, leaves RXQ and TXLOG, and keeps the machine's size
and parameters (R7). WQ_MEM's contents are unspecified and nothing is said of them. -/
def Obligations.RstGivesTheResetTable : Prop :=
  ∀ (s : State) (now : Time), encode (.rst now) = .command (bitsOf 0xF#4 ++ bitsOf now) ∧
    ∃ t : State, exec (.rst now) s = .next t ∧
    (t.hreg.length = s.hreg.length ∧ ∀ x ∈ t.hreg, x = 0) ∧ (∀ k : Fin 14, t.pbuf[k] = 0) ∧
    t.wqSize = 0 ∧ t.wqHead = 0 ∧ t.txlen = 0 ∧ t.rxlen = 0 ∧
    t.await = false ∧ t.redirect = false ∧ t.rclass = .none ∧ t.rxOurs = false ∧ t.errflag = false ∧
    t.excValid = false ∧ t.excCode = 0x00 ∧ t.devAddr = s.params.devAddrReset ∧ t.pacingMs = 50 ∧
    t.skipUnchanged = false ∧ t.refreshDisable = false ∧ t.replyCtr = 0 ∧
    t.retry = s.params.timeoutTicks ∧ t.tLastTx = now ∧ t.tCoarse = now ∧
    t.ppState = .send ∧ t.ppSnap = 0 ∧ t.ppNr = 0 ∧ t.preqPending = false ∧
    t.rxq = s.rxq ∧ t.txlog = s.txlog ∧ t.params = s.params ∧ t.now = now ∧ t.agenda = s.agenda ∧
    t.result = .none

/-- R36, R7: the machine's own reset state holds the table's values, for N_REGS in 1 to 127 and TIMEOUT_TICKS in 4 to 7;
its time stamps are the reset's (free) time (log entries 1, 2). -/
def Obligations.ResetStateHoldsTheTable : Prop :=
  (1 ≤ State.reset.hreg.length ∧ State.reset.hreg.length ≤ 127 ∧ ∀ x ∈ State.reset.hreg, x = 0) ∧
  (∀ k : Fin 14, State.reset.pbuf[k] = 0) ∧ queueList State.reset = [] ∧ State.reset.wqHead = 0 ∧
  State.reset.txbuf = [] ∧ State.reset.rxbuf = [] ∧ State.reset.await = false ∧
  State.reset.redirect = false ∧ State.reset.rclass = .none ∧ State.reset.rxOurs = false ∧
  State.reset.errflag = false ∧ State.reset.excValid = false ∧ State.reset.excCode = 0 ∧
  State.reset.devAddr = State.reset.params.devAddrReset ∧ State.reset.pacingMs = 50 ∧
  State.reset.skipUnchanged = false ∧ State.reset.refreshDisable = false ∧ State.reset.replyCtr = 0 ∧
  (4 ≤ State.reset.retry.toNat ∧ State.reset.retry = State.reset.params.timeoutTicks) ∧
  State.reset.tLastTx = State.reset.now ∧ State.reset.tCoarse = State.reset.now ∧
  State.reset.ppState = .send ∧ State.reset.ppSnap = 0 ∧ State.reset.ppNr = 0 ∧
  State.reset.preqPending = false

/-- R177, R144: once the receive phase has left no request outstanding, this tick declares no timeout: the counter is
as the receive phase left it, whatever the time and the budget, and the budget is full. -/
def Obligations.AcceptedFrameForestallsTheTimeout : Prop :=
  ∀ (s : State) (now : Time),
    (phase1 { s with now := now, rclass := .none, rxOurs := false }).await = false →
      (advance now s).replyCtr =
        (phase1 { s with now := now, rclass := .none, rxOurs := false }).replyCtr ∧
      (advance now s).retry = s.params.timeoutTicks

/-- R162: from a state that meets the invariants, one tick empties RXQ, keeps at most RXBUF_CAP bytes, pops at most one
queue entry and transmits at most one frame of at most 37 bytes. -/
def Obligations.TickWorkIsBounded : Prop :=
  ∀ (s : State) (now : Time), Inv s →
    ∃ t, exec (.adv now) s = .next t ∧ t.rxq = [] ∧ t.rxbuf.length ≤ s.rxbufCap ∧
      (queueList s = queueList t ∨ ∃ e, queueList s = e :: queueList t) ∧
      (t.txlog = s.txlog ∨ ∃ f, f.length ≤ 37 ∧ t.txlog = s.txlog ++ [(now, f)])

/-! ### Invariants and whole-machine rules -/

/-- R34: the invariants hold of the machine right after reset. That it has sent nothing but requests rests on its empty
TXLOG, which is the model's choice (log entry 6): R36 leaves TXLOG to the environment. -/
def Obligations.ResetMeetsTheInvariants : Prop :=
  Inv State.reset ∧ SendsOnlyRequests State.reset ∧ RedirectHasSource State.reset

/-- R34: every step keeps the invariants, from every state that has them. -/
def Obligations.StepKeepsTheInvariants : Prop :=
  ∀ s t : State, Inv s → step s = .next t → Inv t

/-- R83, R70: every step keeps it that all that was transmitted, and whatever waits in the transmit slot, is a request
frame of function 0x03, 0x06 or 0x10 with its CRC. -/
def Obligations.StepSendsOnlyRequests : Prop :=
  ∀ s t : State, SendsOnlyRequests s → step s = .next t → SendsOnlyRequests t

/-- R34, R15: every step keeps it that under REDIRECT the read of a preset bank has been transmitted. -/
def Obligations.StepKeepsRedirectSource : Prop :=
  ∀ s t : State, Inv s → RedirectHasSource s → step s = .next t → RedirectHasSource t

/-- R153, R154: a step transmits at most one frame; when it does, the pacing interval as it then stands has passed since
the previous transmission or reset, the frame is in flight afterwards, and if a request was in flight before, a frame
was accepted or a timeout declared in this step. -/
def Obligations.SingleOutstandingAndPacing : Prop :=
  ∀ s t : State, step s = .next t →
    t.txlog = s.txlog ∨
    ∃ f, t.txlog = s.txlog ++ [(t.now, f)] ∧ t.tLastTx = t.now ∧ t.await = true ∧
      s.pacingMs ≤ t.now - s.tLastTx ∧ t.pacingMs = s.pacingMs ∧
      (s.await = true → t.replyCtr = s.replyCtr + 1)

/-- R14, R161: a step that ends a transaction advances the reply counter by one, or is a reset; a step that starts one
transmits a frame. -/
def Obligations.TransactionStateMachine : Prop :=
  ∀ s t : State, step s = .next t →
    (s.await = true → t.await = false → t.replyCtr = s.replyCtr + 1 ∨ ∃ now, NextIs s (.rst now)) ∧
    (s.await = false → t.await = true → ∃ f, t.txlog = s.txlog ++ [(t.now, f)] ∧ ∃ now, NextIs s (.adv now))

/-- R23: the reply counter stays or advances by one, modulo 2^32, except that a reset clears it; only a tick advances it. -/
def Obligations.ReplyCounterAdvancesByOne : Prop :=
  ∀ s t : State, step s = .next t →
    t.replyCtr = s.replyCtr ∨
    (t.replyCtr = s.replyCtr + 1 ∧ ∃ now, NextIs s (.adv now)) ∨
    (t.replyCtr = 0 ∧ ∃ now, NextIs s (.rst now))

/-- R11, R12, R54: the cache changes only in a tick that accepted data or a confirm, or in a reset; the preset buffer only
in a tick that accepted data under REDIRECT, or in a reset. -/
def Obligations.CachesChangeOnlyByReplies : Prop :=
  ∀ s t : State, step s = .next t →
    (t.hreg ≠ s.hreg →
      (∃ now, NextIs s (.adv now)) ∧ t.rclass ≠ .none ∧ t.replyCtr = s.replyCtr + 1 ∨ ∃ now, NextIs s (.rst now)) ∧
    (t.pbuf ≠ s.pbuf →
      (∃ now, NextIs s (.adv now)) ∧ s.redirect = true ∧ t.rclass = .data ∧ t.replyCtr = s.replyCtr + 1 ∨
        ∃ now, NextIs s (.rst now))

/-- R15, R150: REDIRECT is set only by a tick that transmits the posted preset read. -/
def Obligations.RedirectIsSetByThePresetRead : Prop :=
  ∀ s t : State, step s = .next t → s.redirect = false → t.redirect = true →
    (∃ now, NextIs s (.adv now)) ∧ s.preqPending = true ∧ t.preqPending = false ∧
      t.txlog = s.txlog ++ [(t.now, crcAppend (rdreqBody s.devAddr (bankAddr s.params s.ppNr) 14))]

/-- R130, R28: the pager leaves Send only by a PRQ and Wait only by a PPL or a reset, so no tick, no reply and no timeout
changes its state. -/
def Obligations.PagerStateMachine : Prop :=
  ∀ s t : State, step s = .next t →
    (s.ppState = .send → t.ppState = .wait → ∃ nr, nr.toNat ≤ 9 ∧ NextIs s (.prq nr)) ∧
    (s.ppState = .wait → t.ppState = .send →
      NextIs s .ppl ∧ s.replyCtr ≠ s.ppSnap ∨ ∃ now, NextIs s (.rst now))

/-- R27, R122, R123, R198: the queue stays, gains one youngest entry by ENQ, loses its oldest entry in a tick, or is emptied
by a reset; so nothing is ever put back, not even a write lost to a timeout. -/
def Obligations.QueueChangesOneEntryAtATime : Prop :=
  ∀ s t : State, step s = .next t →
    queueList t = queueList s ∨
    (∃ idx val, NextIs s (.enq idx val) ∧ queueList t = queueList s ++ [⟨idx, val⟩]) ∨
    (∃ now e, NextIs s (.adv now) ∧ queueList s = e :: queueList t) ∨
    (∃ now, NextIs s (.rst now) ∧ queueList t = [])

/-- R29, R148, R203: a prepared frame waits unchanged until a PPS replaces it, a tick transmits it byte for byte, or a
reset drops it. -/
def Obligations.PreparedFrameWaitsUnchanged : Prop :=
  ∀ s t : State, step s = .next t →
    t.txbuf = s.txbuf ∨
    (∃ nr w, nr.toNat ≤ 9 ∧ NextIs s (.pps nr w) ∧ t.txbuf.length = 37) ∨
    (t.txbuf = [] ∧ (∃ now, NextIs s (.adv now)) ∧ t.txlog = s.txlog ++ [(t.now, s.txbuf)]) ∨
    (t.txbuf = [] ∧ ∃ now, NextIs s (.rst now))

/-- R19, R179, R113: a recorded exception stays recorded until a reset. The record changes only in a reset, or in a tick
whose drained receive buffer is classified as an exception reply carrying the code that is then recorded; and every such
tick records its code, over an earlier one. -/
def Obligations.ExceptionRecordIsSticky : Prop :=
  ∀ s t : State, step s = .next t →
    (s.excValid = true → t.excValid = true ∨ ∃ now, NextIs s (.rst now)) ∧
    (t.excCode ≠ s.excCode ∨ t.excValid ≠ s.excValid →
      ((∃ now, NextIs s (.adv now)) ∧
        (∃ addr orig lo hi,
          decodeReply s.maxPayload (drain s).rxbuf = .exception addr orig t.excCode lo hi) ∧
        t.excValid = true ∧ t.rclass = .none ∧ t.replyCtr = s.replyCtr + 1) ∨
        ∃ now, NextIs s (.rst now)) ∧
    (∀ now addr orig code lo hi, NextIs s (.adv now) →
      decodeReply s.maxPayload (drain s).rxbuf = .exception addr orig code lo hi →
        t.excValid = true ∧ t.excCode = code)

/-- R7, R20 to R22: no step changes the OPEN parameters or the number of registers (log entry 1), and the configuration
registers change only by their own operation or a reset. -/
def Obligations.ConfigurationChangesOnlyByItsOperation : Prop :=
  ∀ s t : State, step s = .next t →
    t.params = s.params ∧ t.hreg.length = s.hreg.length ∧
    (t.devAddr ≠ s.devAddr → (∃ a, NextIs s (.sda a)) ∨ ∃ now, NextIs s (.rst now)) ∧
    (t.pacingMs ≠ s.pacingMs → (∃ ms, NextIs s (.spi ms)) ∨ ∃ now, NextIs s (.rst now)) ∧
    ((t.skipUnchanged ≠ s.skipUnchanged ∨ t.refreshDisable ≠ s.refreshDisable) →
      (∃ a b, NextIs s (.sfl a b)) ∨ ∃ now, NextIs s (.rst now))
end

