-- ==== Sys2Proof/Laws/Encoding.lean ====
section
/-! SUPPORT. The laws of the byte and bit layouts: a word and its two bytes, payload words and payload bytes, a field
and its bits, a bank and its bits. Proofs about encodings cite these instead of unfolding the layouts. -/

namespace Sys2Proof

/-! ### Words and bytes -/

theorem be16_hi8_lo8 (v : Word) : be16 (hi8 v) (lo8 v) = v := by
  apply BitVec.eq_of_getLsbD_eq
  intro i hi
  simp only [be16, hi8, lo8, BitVec.getLsbD_append, BitVec.getLsbD_extractLsb']
  by_cases h : i < 8
  · simp [h]
  · have h1 : i - 8 < 8 := by omega
    have h2 : 8 + (i - 8) = i := by omega
    simp [h, h1, h2]

theorem hi8_be16 (a b : Byte) : hi8 (be16 a b) = a := by
  apply BitVec.eq_of_getLsbD_eq
  intro i hi
  unfold hi8 be16
  rw [BitVec.getLsbD_extractLsb', BitVec.getLsbD_append]
  have h1 : ¬ 8 + i < 8 := by omega
  have h2 : 8 + i - 8 = i := by omega
  simp only [hi, decide_true, Bool.true_and, h1, if_false, h2]

theorem lo8_be16 (a b : Byte) : lo8 (be16 a b) = b := by
  apply BitVec.eq_of_getLsbD_eq
  intro i hi
  unfold lo8 be16
  rw [BitVec.getLsbD_extractLsb', BitVec.getLsbD_append]
  simp only [hi, decide_true, Bool.true_and, Nat.zero_add, if_true]

@[simp] theorem bytesOfWords_length (ws : List Word) : (bytesOfWords ws).length = 2 * ws.length := by
  induction ws with
  | nil => rfl
  | cons w ws ih => simp only [bytesOfWords, List.length_cons, ih]; omega

/-- Payload words come back from their bytes. -/
theorem wordsOfBytes_bytesOfWords (ws : List Word) : wordsOfBytes (bytesOfWords ws) = ws := by
  induction ws with
  | nil => rfl
  | cons w ws ih => simp only [bytesOfWords, wordsOfBytes, be16_hi8_lo8, ih]

/-- An even number of payload bytes comes back from its words, of which there are half as many. -/
theorem bytesOfWords_wordsOfBytes (n : Nat) :
    ∀ l : List Byte, l.length = 2 * n → bytesOfWords (wordsOfBytes l) = l ∧ (wordsOfBytes l).length = n := by
  induction n with
  | zero =>
    intro l h
    have : l = [] := List.length_eq_zero_iff.1 (by omega)
    subst this; exact ⟨rfl, rfl⟩
  | succ n ih =>
    intro l h
    match l, h with
    | a :: b :: rest, h =>
      have hr : rest.length = 2 * n := by simp only [List.length_cons] at h; omega
      obtain ⟨h1, h2⟩ := ih rest hr
      simp [wordsOfBytes, bytesOfWords, hi8_be16, lo8_be16, h1, h2]
    | [a], h => simp only [List.length_cons, List.length_nil] at h; omega

/-- Word `i` of a payload is spelled by bytes `2i` and `2i + 1`, high byte first (R45, R64, R65). -/
theorem wordsOfBytes_getElem? (l : List Byte) (i : Nat) (h : 2 * i + 1 < l.length) :
    (wordsOfBytes l)[i]? = some (be16 (l.getD (2 * i) 0) (l.getD (2 * i + 1) 0)) := by
  induction i generalizing l with
  | zero =>
    match l, h with
    | a :: b :: rest, _ => simp [wordsOfBytes]
  | succ i ih =>
    match l, h with
    | a :: b :: rest, h =>
      have := ih rest (by simp only [List.length_cons] at h; omega)
      simpa [wordsOfBytes, Nat.mul_succ] using this

/-! ### Fields and bits -/

theorem natOfBits_foldl (bits : List Bool) : ∀ acc : Nat,
    bits.foldl (fun acc b => 2 * acc + b.toNat) acc = acc * 2 ^ bits.length + natOfBits bits := by
  induction bits with
  | nil => intro acc; simp [natOfBits]
  | cons b bits ih =>
    intro acc
    have h0 := ih (2 * acc + b.toNat)
    have h1 := ih (2 * 0 + b.toNat)
    simp only [natOfBits, List.foldl_cons, List.length_cons] at *
    rw [h0, h1, Nat.pow_succ]
    ring

theorem natOfBits_cons (b : Bool) (bits : List Bool) :
    natOfBits (b :: bits) = b.toNat * 2 ^ bits.length + natOfBits bits := by
  have := natOfBits_foldl bits (2 * 0 + b.toNat)
  simpa [natOfBits] using this

theorem natOfBits_lt (bits : List Bool) : natOfBits bits < 2 ^ bits.length := by
  induction bits with
  | nil => simp [natOfBits]
  | cons b bits ih =>
    rw [natOfBits_cons, List.length_cons, Nat.pow_succ]
    cases b <;> simp only [Bool.toNat_false, Bool.toNat_true] <;> omega

@[simp] theorem bitsOf_length {n : Nat} (v : BitVec n) : (bitsOf v).length = n := by simp [bitsOf]

/-- A field's bits: its top bit, then the bits of the rest. -/
theorem bitsOf_succ {n : Nat} (v : BitVec (n + 1)) : bitsOf v = v.msb :: bitsOf (v.setWidth n) := by
  simp only [bitsOf, List.range_succ_eq_map, List.map_cons, List.map_map]
  congr 1
  apply List.map_congr_left
  intro i hi
  have hi : i < n := List.mem_range.1 hi
  have h1 : n + 1 - 1 - (i + 1) = n - 1 - i := by omega
  have h2 : n - 1 - i < n := by omega
  simp only [Function.comp, Nat.succ_eq_add_one, BitVec.getMsbD, BitVec.getLsbD_setWidth, h1, h2, hi,
    Nat.add_lt_add_right hi 1, decide_true, Bool.true_and]

/-- The number that a field's bits spell is the field. -/
theorem natOfBits_bitsOf {n : Nat} (v : BitVec n) : natOfBits (bitsOf v) = v.toNat := by
  induction n with
  | zero => simp [bitsOf, natOfBits, BitVec.eq_nil v]
  | succ n ih =>
    rw [bitsOf_succ, natOfBits_cons, ih, bitsOf_length]
    have hlt := v.isLt
    have hsplit := Nat.div_add_mod v.toNat (2 ^ n)
    have hq : v.toNat / 2 ^ n < 2 := Nat.div_lt_of_lt_mul (by rw [Nat.pow_succ] at hlt; omega)
    have hm : v.msb.toNat = v.toNat / 2 ^ n := by
      rw [BitVec.msb_eq_decide]
      by_cases h : 2 ^ (n + 1 - 1) ≤ v.toNat
      · have : 1 ≤ v.toNat / 2 ^ n := (Nat.one_le_div_iff (Nat.two_pow_pos n)).2 h
        simp only [h, decide_true, Bool.toNat_true]; omega
      · have : v.toNat / 2 ^ n = 0 := Nat.div_eq_of_lt (by simpa using h)
        simp only [h, decide_false, Bool.toNat_false, this]
    rw [hm, BitVec.toNat_setWidth]
    rw [Nat.mul_comm]; exact hsplit

/-- The bits of the field that `n` bits spell are those bits. -/
theorem bitsOf_natOfBits (bits : List Bool) : bitsOf (BitVec.ofNat bits.length (natOfBits bits)) = bits := by
  apply List.ext_getElem (by simp)
  intro i h1 h2
  have key : ∀ (l : List Bool) (j : Nat) (h : j < l.length), (natOfBits l).testBit (l.length - 1 - j) = l[j] := by
    intro l
    induction l with
    | nil => intro j h; simp at h
    | cons b l ih =>
      intro j h
      rw [natOfBits_cons]
      cases j with
      | zero =>
        have hl := natOfBits_lt l
        simp only [List.length_cons, Nat.add_sub_cancel, Nat.sub_zero, List.getElem_cons_zero]
        rw [Nat.mul_comm, Nat.testBit_two_pow_mul_add _ hl]
        cases b <;> simp
      | succ j =>
        have hj : j < l.length := by simpa using h
        have hl := natOfBits_lt l
        have e : (b :: l).length - 1 - (j + 1) = l.length - 1 - j := by simp; omega
        rw [e, Nat.mul_comm, Nat.testBit_two_pow_mul_add _ hl, if_pos (by omega)]
        simpa using ih j hj
  have hi : i < bits.length := by simpa using h1
  have := key bits i hi
  simp only [bitsOf, List.getElem_map, List.getElem_range, BitVec.getMsbD, BitVec.getLsbD_ofNat]
  simp [hi, this, show bits.length - 1 - i < bits.length by omega]

/-- A field is read back from the front of its bits. -/
theorem takeField_bitsOf {n : Nat} (v : BitVec n) (rest : List Bool) :
    takeField n (bitsOf v ++ rest) = some (v, rest) := by
  unfold takeField
  rw [if_pos (by simp)]
  have h1 : (bitsOf v ++ rest).take n = bitsOf v := by
    rw [List.take_append_of_le_length (by simp), List.take_of_length_le (by simp)]
  have h2 : (bitsOf v ++ rest).drop n = rest := by
    rw [List.drop_append_of_le_length (by simp), List.drop_of_length_le (by simp)]; rfl
  rw [h1, h2, natOfBits_bitsOf]; simp

/-- What a read field came from. -/
theorem takeField_eq_some {n : Nat} {bits rest : List Bool} {v : BitVec n}
    (h : takeField n bits = some (v, rest)) : bits = bitsOf v ++ rest := by
  unfold takeField at h
  split at h
  · next hn =>
    cases h
    have hl : (bits.take n).length = n := by simp; omega
    have := bitsOf_natOfBits (bits.take n)
    rw [hl] at this
    rw [this, List.take_append_drop]
  · cases h

/-- A field is missing exactly when there are too few bits. -/
theorem takeField_eq_none {n : Nat} {bits : List Bool} : takeField n bits = none ↔ bits.length < n := by
  unfold takeField; split <;> simp <;> omega

/-! ### Banks -/

theorem flatMap_bitsOf_length (ws : List Word) : (ws.flatMap bitsOf).length = 16 * ws.length := by
  induction ws with
  | nil => rfl
  | cons w ws ih => simp only [List.flatMap_cons, List.length_append, bitsOf_length, ih, List.length_cons]; omega

/-- Word `k` of a run of words stands in bits `16 k` to `16 k + 15`. -/
theorem drop_take_flatMap_bitsOf (ws : List Word) (rest : List Bool) :
    ∀ (k : Nat) (h : k < ws.length), ((ws.flatMap bitsOf ++ rest).drop (16 * k)).take 16 = bitsOf ws[k] := by
  induction ws with
  | nil => intro k h; simp at h
  | cons w ws ih =>
    intro k h
    have hw : (bitsOf w).length = 16 := bitsOf_length w
    cases k with
    | zero => simp [List.flatMap_cons, List.append_assoc]
    | succ k =>
      have := ih k (by simpa using h)
      have hd : (bitsOf w ++ (ws.flatMap bitsOf ++ rest)).drop (16 * (k + 1)) =
          (ws.flatMap bitsOf ++ rest).drop (16 * k) := by
        rw [show 16 * (k + 1) = (bitsOf w).length + 16 * k by omega, ← List.drop_drop, List.drop_left]
      rw [List.flatMap_cons, List.append_assoc, hd]
      simpa using this

/-- Sixteen bits at a time, `n` times, are the first `16 n` bits. -/
theorem flatMap_drop_take (bits : List Bool) (n : Nat) :
    (List.range n).flatMap (fun k => (bits.drop (16 * k)).take 16) = bits.take (16 * n) := by
  induction n with
  | zero => simp
  | succ n ih =>
    rw [List.range_succ, List.flatMap_append, ih, Nat.mul_succ, List.take_add]
    simp

theorem bitsOfBank_length (w : Bank) : (bitsOfBank w).length = 224 := by
  unfold bitsOfBank; rw [flatMap_bitsOf_length]; simp

/-- A bank is read back from the front of its bits. -/
theorem takeBank_bitsOfBank (w : Bank) (rest : List Bool) : takeBank (bitsOfBank w ++ rest) = some (w, rest) := by
  have hl := bitsOfBank_length w
  unfold takeBank
  rw [if_pos (by simp [hl])]
  have h2 : (bitsOfBank w ++ rest).drop 224 = rest := by rw [← hl, List.drop_left]
  rw [h2]
  congr 2
  apply Vector.ext
  intro k hk
  simp only [Vector.getElem_ofFn]
  unfold bitsOfBank
  rw [drop_take_flatMap_bitsOf w.toList rest k (by simpa using hk), natOfBits_bitsOf]
  simp

/-- What a read bank came from. -/
theorem takeBank_eq_some {bits rest : List Bool} {w : Bank} (h : takeBank bits = some (w, rest)) :
    bits = bitsOfBank w ++ rest := by
  unfold takeBank at h
  split at h
  · next hn =>
    cases h
    have hr : ∀ k : Fin 14, bitsOf (BitVec.ofNat 16 (natOfBits ((bits.drop (16 * k.val)).take 16))) =
        (bits.drop (16 * k.val)).take 16 := by
      intro k
      have hl : ((bits.drop (16 * k.val)).take 16).length = 16 := by
        have := k.isLt; simp only [List.length_take, List.length_drop]; omega
      have := bitsOf_natOfBits ((bits.drop (16 * k.val)).take 16)
      rwa [hl] at this
    have hb : bitsOfBank (Vector.ofFn fun k : Fin 14 =>
        BitVec.ofNat 16 (natOfBits ((bits.drop (16 * k.val)).take 16))) = bits.take 224 := by
      rw [← flatMap_drop_take bits 14, show List.range 14 = (List.finRange 14).map Fin.val by decide]
      unfold bitsOfBank
      rw [Vector.toList_ofFn, List.ofFn_eq_map, List.flatMap_map, List.flatMap_map]
      congr 1; funext k; exact hr k
    rw [hb, List.take_append_drop]
  · cases h

end Sys2Proof
end

