-- ==== Sys2Proof/Laws/State.lean ====
section
/-! SUPPORT. The named updates of the state, field by field: what each writes and what each leaves, by rfl. Later
proofs rewrite with these instead of unfolding an update. -/

namespace Sys2Proof.Machine

open Sys2Proof

variable (s : State)

/-! `setResult` -/

@[simp] theorem setResult_params (r : Result) : (setResult r s).params = s.params := rfl
@[simp] theorem setResult_hreg (r : Result) : (setResult r s).hreg = s.hreg := rfl
@[simp] theorem setResult_pbuf (r : Result) : (setResult r s).pbuf = s.pbuf := rfl
@[simp] theorem setResult_wqMem (r : Result) : (setResult r s).wqMem = s.wqMem := rfl
@[simp] theorem setResult_wqHead (r : Result) : (setResult r s).wqHead = s.wqHead := rfl
@[simp] theorem setResult_wqSize (r : Result) : (setResult r s).wqSize = s.wqSize := rfl
@[simp] theorem setResult_txbuf (r : Result) : (setResult r s).txbuf = s.txbuf := rfl
@[simp] theorem setResult_rxbuf (r : Result) : (setResult r s).rxbuf = s.rxbuf := rfl
@[simp] theorem setResult_await (r : Result) : (setResult r s).await = s.await := rfl
@[simp] theorem setResult_redirect (r : Result) : (setResult r s).redirect = s.redirect := rfl
@[simp] theorem setResult_rclass (r : Result) : (setResult r s).rclass = s.rclass := rfl
@[simp] theorem setResult_rxOurs (r : Result) : (setResult r s).rxOurs = s.rxOurs := rfl
@[simp] theorem setResult_errflag (r : Result) : (setResult r s).errflag = s.errflag := rfl
@[simp] theorem setResult_excValid (r : Result) : (setResult r s).excValid = s.excValid := rfl
@[simp] theorem setResult_excCode (r : Result) : (setResult r s).excCode = s.excCode := rfl
@[simp] theorem setResult_devAddr (r : Result) : (setResult r s).devAddr = s.devAddr := rfl
@[simp] theorem setResult_pacingMs (r : Result) : (setResult r s).pacingMs = s.pacingMs := rfl
@[simp] theorem setResult_skipUnchanged (r : Result) : (setResult r s).skipUnchanged = s.skipUnchanged := rfl
@[simp] theorem setResult_refreshDisable (r : Result) : (setResult r s).refreshDisable = s.refreshDisable := rfl
@[simp] theorem setResult_replyCtr (r : Result) : (setResult r s).replyCtr = s.replyCtr := rfl
@[simp] theorem setResult_retry (r : Result) : (setResult r s).retry = s.retry := rfl
@[simp] theorem setResult_tLastTx (r : Result) : (setResult r s).tLastTx = s.tLastTx := rfl
@[simp] theorem setResult_tCoarse (r : Result) : (setResult r s).tCoarse = s.tCoarse := rfl
@[simp] theorem setResult_ppState (r : Result) : (setResult r s).ppState = s.ppState := rfl
@[simp] theorem setResult_ppSnap (r : Result) : (setResult r s).ppSnap = s.ppSnap := rfl
@[simp] theorem setResult_ppNr (r : Result) : (setResult r s).ppNr = s.ppNr := rfl
@[simp] theorem setResult_preqPending (r : Result) : (setResult r s).preqPending = s.preqPending := rfl
@[simp] theorem setResult_rxq (r : Result) : (setResult r s).rxq = s.rxq := rfl
@[simp] theorem setResult_txlog (r : Result) : (setResult r s).txlog = s.txlog := rfl
@[simp] theorem setResult_now (r : Result) : (setResult r s).now = s.now := rfl
@[simp] theorem setResult_agenda (r : Result) : (setResult r s).agenda = s.agenda := rfl
@[simp] theorem setResult_result (r : Result) : (setResult r s).result = r := rfl
@[simp] theorem setResult_freeCount (r : Result) : (setResult r s).freeCount = s.freeCount := rfl

/-! `accept` -/

@[simp] theorem accept_params (addr : Byte) : (accept addr s).params = s.params := rfl
@[simp] theorem accept_hreg (addr : Byte) : (accept addr s).hreg = s.hreg := rfl
@[simp] theorem accept_pbuf (addr : Byte) : (accept addr s).pbuf = s.pbuf := rfl
@[simp] theorem accept_wqMem (addr : Byte) : (accept addr s).wqMem = s.wqMem := rfl
@[simp] theorem accept_wqHead (addr : Byte) : (accept addr s).wqHead = s.wqHead := rfl
@[simp] theorem accept_wqSize (addr : Byte) : (accept addr s).wqSize = s.wqSize := rfl
@[simp] theorem accept_txbuf (addr : Byte) : (accept addr s).txbuf = s.txbuf := rfl
@[simp] theorem accept_rxbuf (addr : Byte) : (accept addr s).rxbuf = [] := rfl
@[simp] theorem accept_await (addr : Byte) : (accept addr s).await = false := rfl
@[simp] theorem accept_redirect (addr : Byte) : (accept addr s).redirect = s.redirect := rfl
@[simp] theorem accept_rclass (addr : Byte) : (accept addr s).rclass = s.rclass := rfl
@[simp] theorem accept_rxOurs (addr : Byte) : (accept addr s).rxOurs = (addr == s.devAddr) := rfl
@[simp] theorem accept_errflag (addr : Byte) : (accept addr s).errflag = false := rfl
@[simp] theorem accept_excValid (addr : Byte) : (accept addr s).excValid = s.excValid := rfl
@[simp] theorem accept_excCode (addr : Byte) : (accept addr s).excCode = s.excCode := rfl
@[simp] theorem accept_devAddr (addr : Byte) : (accept addr s).devAddr = s.devAddr := rfl
@[simp] theorem accept_pacingMs (addr : Byte) : (accept addr s).pacingMs = s.pacingMs := rfl
@[simp] theorem accept_skipUnchanged (addr : Byte) : (accept addr s).skipUnchanged = s.skipUnchanged := rfl
@[simp] theorem accept_refreshDisable (addr : Byte) : (accept addr s).refreshDisable = s.refreshDisable := rfl
@[simp] theorem accept_replyCtr (addr : Byte) : (accept addr s).replyCtr = s.replyCtr + 1 := rfl
@[simp] theorem accept_retry (addr : Byte) : (accept addr s).retry = s.retry := rfl
@[simp] theorem accept_tLastTx (addr : Byte) : (accept addr s).tLastTx = s.tLastTx := rfl
@[simp] theorem accept_tCoarse (addr : Byte) : (accept addr s).tCoarse = s.tCoarse := rfl
@[simp] theorem accept_ppState (addr : Byte) : (accept addr s).ppState = s.ppState := rfl
@[simp] theorem accept_ppSnap (addr : Byte) : (accept addr s).ppSnap = s.ppSnap := rfl
@[simp] theorem accept_ppNr (addr : Byte) : (accept addr s).ppNr = s.ppNr := rfl
@[simp] theorem accept_preqPending (addr : Byte) : (accept addr s).preqPending = s.preqPending := rfl
@[simp] theorem accept_rxq (addr : Byte) : (accept addr s).rxq = s.rxq := rfl
@[simp] theorem accept_txlog (addr : Byte) : (accept addr s).txlog = s.txlog := rfl
@[simp] theorem accept_now (addr : Byte) : (accept addr s).now = s.now := rfl
@[simp] theorem accept_agenda (addr : Byte) : (accept addr s).agenda = s.agenda := rfl
@[simp] theorem accept_result (addr : Byte) : (accept addr s).result = s.result := rfl
@[simp] theorem accept_freeCount (addr : Byte) : (accept addr s).freeCount = s.freeCount := rfl

/-! `clearRx` -/

@[simp] theorem clearRx_params : (clearRx s).params = s.params := rfl
@[simp] theorem clearRx_hreg : (clearRx s).hreg = s.hreg := rfl
@[simp] theorem clearRx_pbuf : (clearRx s).pbuf = s.pbuf := rfl
@[simp] theorem clearRx_wqMem : (clearRx s).wqMem = s.wqMem := rfl
@[simp] theorem clearRx_wqHead : (clearRx s).wqHead = s.wqHead := rfl
@[simp] theorem clearRx_wqSize : (clearRx s).wqSize = s.wqSize := rfl
@[simp] theorem clearRx_txbuf : (clearRx s).txbuf = s.txbuf := rfl
@[simp] theorem clearRx_rxbuf : (clearRx s).rxbuf = [] := rfl
@[simp] theorem clearRx_await : (clearRx s).await = s.await := rfl
@[simp] theorem clearRx_redirect : (clearRx s).redirect = s.redirect := rfl
@[simp] theorem clearRx_rclass : (clearRx s).rclass = s.rclass := rfl
@[simp] theorem clearRx_rxOurs : (clearRx s).rxOurs = s.rxOurs := rfl
@[simp] theorem clearRx_errflag : (clearRx s).errflag = s.errflag := rfl
@[simp] theorem clearRx_excValid : (clearRx s).excValid = s.excValid := rfl
@[simp] theorem clearRx_excCode : (clearRx s).excCode = s.excCode := rfl
@[simp] theorem clearRx_devAddr : (clearRx s).devAddr = s.devAddr := rfl
@[simp] theorem clearRx_pacingMs : (clearRx s).pacingMs = s.pacingMs := rfl
@[simp] theorem clearRx_skipUnchanged : (clearRx s).skipUnchanged = s.skipUnchanged := rfl
@[simp] theorem clearRx_refreshDisable : (clearRx s).refreshDisable = s.refreshDisable := rfl
@[simp] theorem clearRx_replyCtr : (clearRx s).replyCtr = s.replyCtr := rfl
@[simp] theorem clearRx_retry : (clearRx s).retry = s.retry := rfl
@[simp] theorem clearRx_tLastTx : (clearRx s).tLastTx = s.tLastTx := rfl
@[simp] theorem clearRx_tCoarse : (clearRx s).tCoarse = s.tCoarse := rfl
@[simp] theorem clearRx_ppState : (clearRx s).ppState = s.ppState := rfl
@[simp] theorem clearRx_ppSnap : (clearRx s).ppSnap = s.ppSnap := rfl
@[simp] theorem clearRx_ppNr : (clearRx s).ppNr = s.ppNr := rfl
@[simp] theorem clearRx_preqPending : (clearRx s).preqPending = s.preqPending := rfl
@[simp] theorem clearRx_rxq : (clearRx s).rxq = s.rxq := rfl
@[simp] theorem clearRx_txlog : (clearRx s).txlog = s.txlog := rfl
@[simp] theorem clearRx_now : (clearRx s).now = s.now := rfl
@[simp] theorem clearRx_agenda : (clearRx s).agenda = s.agenda := rfl
@[simp] theorem clearRx_result : (clearRx s).result = s.result := rfl
@[simp] theorem clearRx_freeCount : (clearRx s).freeCount = s.freeCount := rfl

/-! `timeout` -/

@[simp] theorem timeout_params : (timeout s).params = s.params := rfl
@[simp] theorem timeout_hreg : (timeout s).hreg = s.hreg := rfl
@[simp] theorem timeout_pbuf : (timeout s).pbuf = s.pbuf := rfl
@[simp] theorem timeout_wqMem : (timeout s).wqMem = s.wqMem := rfl
@[simp] theorem timeout_wqHead : (timeout s).wqHead = s.wqHead := rfl
@[simp] theorem timeout_wqSize : (timeout s).wqSize = s.wqSize := rfl
@[simp] theorem timeout_txbuf : (timeout s).txbuf = s.txbuf := rfl
@[simp] theorem timeout_rxbuf : (timeout s).rxbuf = [] := rfl
@[simp] theorem timeout_await : (timeout s).await = false := rfl
@[simp] theorem timeout_redirect : (timeout s).redirect = false := rfl
@[simp] theorem timeout_rclass : (timeout s).rclass = s.rclass := rfl
@[simp] theorem timeout_rxOurs : (timeout s).rxOurs = s.rxOurs := rfl
@[simp] theorem timeout_errflag : (timeout s).errflag = s.errflag := rfl
@[simp] theorem timeout_excValid : (timeout s).excValid = s.excValid := rfl
@[simp] theorem timeout_excCode : (timeout s).excCode = s.excCode := rfl
@[simp] theorem timeout_devAddr : (timeout s).devAddr = s.devAddr := rfl
@[simp] theorem timeout_pacingMs : (timeout s).pacingMs = s.pacingMs := rfl
@[simp] theorem timeout_skipUnchanged : (timeout s).skipUnchanged = s.skipUnchanged := rfl
@[simp] theorem timeout_refreshDisable : (timeout s).refreshDisable = s.refreshDisable := rfl
@[simp] theorem timeout_replyCtr : (timeout s).replyCtr = s.replyCtr + 1 := rfl
@[simp] theorem timeout_retry : (timeout s).retry = s.params.timeoutTicks := rfl
@[simp] theorem timeout_tLastTx : (timeout s).tLastTx = s.tLastTx := rfl
@[simp] theorem timeout_tCoarse : (timeout s).tCoarse = s.tCoarse := rfl
@[simp] theorem timeout_ppState : (timeout s).ppState = s.ppState := rfl
@[simp] theorem timeout_ppSnap : (timeout s).ppSnap = s.ppSnap := rfl
@[simp] theorem timeout_ppNr : (timeout s).ppNr = s.ppNr := rfl
@[simp] theorem timeout_preqPending : (timeout s).preqPending = s.preqPending := rfl
@[simp] theorem timeout_rxq : (timeout s).rxq = s.rxq := rfl
@[simp] theorem timeout_txlog : (timeout s).txlog = s.txlog := rfl
@[simp] theorem timeout_now : (timeout s).now = s.now := rfl
@[simp] theorem timeout_agenda : (timeout s).agenda = s.agenda := rfl
@[simp] theorem timeout_result : (timeout s).result = s.result := rfl
@[simp] theorem timeout_freeCount : (timeout s).freeCount = s.freeCount := rfl

/-! `transmit` -/

@[simp] theorem transmit_params (f : List Byte) : (transmit f s).params = s.params := rfl
@[simp] theorem transmit_hreg (f : List Byte) : (transmit f s).hreg = s.hreg := rfl
@[simp] theorem transmit_pbuf (f : List Byte) : (transmit f s).pbuf = s.pbuf := rfl
@[simp] theorem transmit_wqMem (f : List Byte) : (transmit f s).wqMem = s.wqMem := rfl
@[simp] theorem transmit_wqHead (f : List Byte) : (transmit f s).wqHead = s.wqHead := rfl
@[simp] theorem transmit_wqSize (f : List Byte) : (transmit f s).wqSize = s.wqSize := rfl
@[simp] theorem transmit_txbuf (f : List Byte) : (transmit f s).txbuf = s.txbuf := rfl
@[simp] theorem transmit_rxbuf (f : List Byte) : (transmit f s).rxbuf = [] := rfl
@[simp] theorem transmit_await (f : List Byte) : (transmit f s).await = true := rfl
@[simp] theorem transmit_redirect (f : List Byte) : (transmit f s).redirect = s.redirect := rfl
@[simp] theorem transmit_rclass (f : List Byte) : (transmit f s).rclass = s.rclass := rfl
@[simp] theorem transmit_rxOurs (f : List Byte) : (transmit f s).rxOurs = s.rxOurs := rfl
@[simp] theorem transmit_errflag (f : List Byte) : (transmit f s).errflag = s.errflag := rfl
@[simp] theorem transmit_excValid (f : List Byte) : (transmit f s).excValid = s.excValid := rfl
@[simp] theorem transmit_excCode (f : List Byte) : (transmit f s).excCode = s.excCode := rfl
@[simp] theorem transmit_devAddr (f : List Byte) : (transmit f s).devAddr = s.devAddr := rfl
@[simp] theorem transmit_pacingMs (f : List Byte) : (transmit f s).pacingMs = s.pacingMs := rfl
@[simp] theorem transmit_skipUnchanged (f : List Byte) : (transmit f s).skipUnchanged = s.skipUnchanged := rfl
@[simp] theorem transmit_refreshDisable (f : List Byte) : (transmit f s).refreshDisable = s.refreshDisable := rfl
@[simp] theorem transmit_replyCtr (f : List Byte) : (transmit f s).replyCtr = s.replyCtr := rfl
@[simp] theorem transmit_retry (f : List Byte) : (transmit f s).retry = s.retry := rfl
@[simp] theorem transmit_tLastTx (f : List Byte) : (transmit f s).tLastTx = s.now := rfl
@[simp] theorem transmit_tCoarse (f : List Byte) : (transmit f s).tCoarse = s.tCoarse := rfl
@[simp] theorem transmit_ppState (f : List Byte) : (transmit f s).ppState = s.ppState := rfl
@[simp] theorem transmit_ppSnap (f : List Byte) : (transmit f s).ppSnap = s.ppSnap := rfl
@[simp] theorem transmit_ppNr (f : List Byte) : (transmit f s).ppNr = s.ppNr := rfl
@[simp] theorem transmit_preqPending (f : List Byte) : (transmit f s).preqPending = s.preqPending := rfl
@[simp] theorem transmit_rxq (f : List Byte) : (transmit f s).rxq = s.rxq := rfl
@[simp] theorem transmit_txlog (f : List Byte) : (transmit f s).txlog = s.txlog ++ [(s.now, f)] := rfl
@[simp] theorem transmit_now (f : List Byte) : (transmit f s).now = s.now := rfl
@[simp] theorem transmit_agenda (f : List Byte) : (transmit f s).agenda = s.agenda := rfl
@[simp] theorem transmit_result (f : List Byte) : (transmit f s).result = s.result := rfl
@[simp] theorem transmit_freeCount (f : List Byte) : (transmit f s).freeCount = s.freeCount := rfl

/-! `drain` -/

@[simp] theorem drain_params : (drain s).params = s.params := rfl
@[simp] theorem drain_hreg : (drain s).hreg = s.hreg := rfl
@[simp] theorem drain_pbuf : (drain s).pbuf = s.pbuf := rfl
@[simp] theorem drain_wqMem : (drain s).wqMem = s.wqMem := rfl
@[simp] theorem drain_wqHead : (drain s).wqHead = s.wqHead := rfl
@[simp] theorem drain_wqSize : (drain s).wqSize = s.wqSize := rfl
@[simp] theorem drain_txbuf : (drain s).txbuf = s.txbuf := rfl
@[simp] theorem drain_rxbuf : (drain s).rxbuf = s.rxq.foldl (appendRx s.rxbufCap) s.rxbuf := rfl
@[simp] theorem drain_await : (drain s).await = s.await := rfl
@[simp] theorem drain_redirect : (drain s).redirect = s.redirect := rfl
@[simp] theorem drain_rclass : (drain s).rclass = s.rclass := rfl
@[simp] theorem drain_rxOurs : (drain s).rxOurs = s.rxOurs := rfl
@[simp] theorem drain_errflag : (drain s).errflag = s.errflag := rfl
@[simp] theorem drain_excValid : (drain s).excValid = s.excValid := rfl
@[simp] theorem drain_excCode : (drain s).excCode = s.excCode := rfl
@[simp] theorem drain_devAddr : (drain s).devAddr = s.devAddr := rfl
@[simp] theorem drain_pacingMs : (drain s).pacingMs = s.pacingMs := rfl
@[simp] theorem drain_skipUnchanged : (drain s).skipUnchanged = s.skipUnchanged := rfl
@[simp] theorem drain_refreshDisable : (drain s).refreshDisable = s.refreshDisable := rfl
@[simp] theorem drain_replyCtr : (drain s).replyCtr = s.replyCtr := rfl
@[simp] theorem drain_retry : (drain s).retry = s.retry := rfl
@[simp] theorem drain_tLastTx : (drain s).tLastTx = s.tLastTx := rfl
@[simp] theorem drain_tCoarse : (drain s).tCoarse = s.tCoarse := rfl
@[simp] theorem drain_ppState : (drain s).ppState = s.ppState := rfl
@[simp] theorem drain_ppSnap : (drain s).ppSnap = s.ppSnap := rfl
@[simp] theorem drain_ppNr : (drain s).ppNr = s.ppNr := rfl
@[simp] theorem drain_preqPending : (drain s).preqPending = s.preqPending := rfl
@[simp] theorem drain_rxq : (drain s).rxq = [] := rfl
@[simp] theorem drain_txlog : (drain s).txlog = s.txlog := rfl
@[simp] theorem drain_now : (drain s).now = s.now := rfl
@[simp] theorem drain_agenda : (drain s).agenda = s.agenda := rfl
@[simp] theorem drain_result : (drain s).result = s.result := rfl
@[simp] theorem drain_freeCount : (drain s).freeCount = s.freeCount := rfl

/-! `deliver` -/

@[simp] theorem deliver_params (bytes : List Byte) : (deliver bytes s).params = s.params := rfl
@[simp] theorem deliver_hreg (bytes : List Byte) : (deliver bytes s).hreg = s.hreg := rfl
@[simp] theorem deliver_pbuf (bytes : List Byte) : (deliver bytes s).pbuf = s.pbuf := rfl
@[simp] theorem deliver_wqMem (bytes : List Byte) : (deliver bytes s).wqMem = s.wqMem := rfl
@[simp] theorem deliver_wqHead (bytes : List Byte) : (deliver bytes s).wqHead = s.wqHead := rfl
@[simp] theorem deliver_wqSize (bytes : List Byte) : (deliver bytes s).wqSize = s.wqSize := rfl
@[simp] theorem deliver_txbuf (bytes : List Byte) : (deliver bytes s).txbuf = s.txbuf := rfl
@[simp] theorem deliver_rxbuf (bytes : List Byte) : (deliver bytes s).rxbuf = s.rxbuf := rfl
@[simp] theorem deliver_await (bytes : List Byte) : (deliver bytes s).await = s.await := rfl
@[simp] theorem deliver_redirect (bytes : List Byte) : (deliver bytes s).redirect = s.redirect := rfl
@[simp] theorem deliver_rclass (bytes : List Byte) : (deliver bytes s).rclass = s.rclass := rfl
@[simp] theorem deliver_rxOurs (bytes : List Byte) : (deliver bytes s).rxOurs = s.rxOurs := rfl
@[simp] theorem deliver_errflag (bytes : List Byte) : (deliver bytes s).errflag = s.errflag := rfl
@[simp] theorem deliver_excValid (bytes : List Byte) : (deliver bytes s).excValid = s.excValid := rfl
@[simp] theorem deliver_excCode (bytes : List Byte) : (deliver bytes s).excCode = s.excCode := rfl
@[simp] theorem deliver_devAddr (bytes : List Byte) : (deliver bytes s).devAddr = s.devAddr := rfl
@[simp] theorem deliver_pacingMs (bytes : List Byte) : (deliver bytes s).pacingMs = s.pacingMs := rfl
@[simp] theorem deliver_skipUnchanged (bytes : List Byte) : (deliver bytes s).skipUnchanged = s.skipUnchanged := rfl
@[simp] theorem deliver_refreshDisable (bytes : List Byte) : (deliver bytes s).refreshDisable = s.refreshDisable := rfl
@[simp] theorem deliver_replyCtr (bytes : List Byte) : (deliver bytes s).replyCtr = s.replyCtr := rfl
@[simp] theorem deliver_retry (bytes : List Byte) : (deliver bytes s).retry = s.retry := rfl
@[simp] theorem deliver_tLastTx (bytes : List Byte) : (deliver bytes s).tLastTx = s.tLastTx := rfl
@[simp] theorem deliver_tCoarse (bytes : List Byte) : (deliver bytes s).tCoarse = s.tCoarse := rfl
@[simp] theorem deliver_ppState (bytes : List Byte) : (deliver bytes s).ppState = s.ppState := rfl
@[simp] theorem deliver_ppSnap (bytes : List Byte) : (deliver bytes s).ppSnap = s.ppSnap := rfl
@[simp] theorem deliver_ppNr (bytes : List Byte) : (deliver bytes s).ppNr = s.ppNr := rfl
@[simp] theorem deliver_preqPending (bytes : List Byte) : (deliver bytes s).preqPending = s.preqPending := rfl
@[simp] theorem deliver_rxq (bytes : List Byte) : (deliver bytes s).rxq = s.rxq ++ bytes := rfl
@[simp] theorem deliver_txlog (bytes : List Byte) : (deliver bytes s).txlog = s.txlog := rfl
@[simp] theorem deliver_now (bytes : List Byte) : (deliver bytes s).now = s.now := rfl
@[simp] theorem deliver_agenda (bytes : List Byte) : (deliver bytes s).agenda = s.agenda := rfl
@[simp] theorem deliver_result (bytes : List Byte) : (deliver bytes s).result = s.result := rfl
@[simp] theorem deliver_freeCount (bytes : List Byte) : (deliver bytes s).freeCount = s.freeCount := rfl

/-! `setNow` -/

@[simp] theorem setNow_params (now : Time) : (setNow now s).params = s.params := rfl
@[simp] theorem setNow_hreg (now : Time) : (setNow now s).hreg = s.hreg := rfl
@[simp] theorem setNow_pbuf (now : Time) : (setNow now s).pbuf = s.pbuf := rfl
@[simp] theorem setNow_wqMem (now : Time) : (setNow now s).wqMem = s.wqMem := rfl
@[simp] theorem setNow_wqHead (now : Time) : (setNow now s).wqHead = s.wqHead := rfl
@[simp] theorem setNow_wqSize (now : Time) : (setNow now s).wqSize = s.wqSize := rfl
@[simp] theorem setNow_txbuf (now : Time) : (setNow now s).txbuf = s.txbuf := rfl
@[simp] theorem setNow_rxbuf (now : Time) : (setNow now s).rxbuf = s.rxbuf := rfl
@[simp] theorem setNow_await (now : Time) : (setNow now s).await = s.await := rfl
@[simp] theorem setNow_redirect (now : Time) : (setNow now s).redirect = s.redirect := rfl
@[simp] theorem setNow_rclass (now : Time) : (setNow now s).rclass = s.rclass := rfl
@[simp] theorem setNow_rxOurs (now : Time) : (setNow now s).rxOurs = s.rxOurs := rfl
@[simp] theorem setNow_errflag (now : Time) : (setNow now s).errflag = s.errflag := rfl
@[simp] theorem setNow_excValid (now : Time) : (setNow now s).excValid = s.excValid := rfl
@[simp] theorem setNow_excCode (now : Time) : (setNow now s).excCode = s.excCode := rfl
@[simp] theorem setNow_devAddr (now : Time) : (setNow now s).devAddr = s.devAddr := rfl
@[simp] theorem setNow_pacingMs (now : Time) : (setNow now s).pacingMs = s.pacingMs := rfl
@[simp] theorem setNow_skipUnchanged (now : Time) : (setNow now s).skipUnchanged = s.skipUnchanged := rfl
@[simp] theorem setNow_refreshDisable (now : Time) : (setNow now s).refreshDisable = s.refreshDisable := rfl
@[simp] theorem setNow_replyCtr (now : Time) : (setNow now s).replyCtr = s.replyCtr := rfl
@[simp] theorem setNow_retry (now : Time) : (setNow now s).retry = s.retry := rfl
@[simp] theorem setNow_tLastTx (now : Time) : (setNow now s).tLastTx = s.tLastTx := rfl
@[simp] theorem setNow_tCoarse (now : Time) : (setNow now s).tCoarse = s.tCoarse := rfl
@[simp] theorem setNow_ppState (now : Time) : (setNow now s).ppState = s.ppState := rfl
@[simp] theorem setNow_ppSnap (now : Time) : (setNow now s).ppSnap = s.ppSnap := rfl
@[simp] theorem setNow_ppNr (now : Time) : (setNow now s).ppNr = s.ppNr := rfl
@[simp] theorem setNow_preqPending (now : Time) : (setNow now s).preqPending = s.preqPending := rfl
@[simp] theorem setNow_rxq (now : Time) : (setNow now s).rxq = s.rxq := rfl
@[simp] theorem setNow_txlog (now : Time) : (setNow now s).txlog = s.txlog := rfl
@[simp] theorem setNow_now (now : Time) : (setNow now s).now = now := rfl
@[simp] theorem setNow_agenda (now : Time) : (setNow now s).agenda = s.agenda := rfl
@[simp] theorem setNow_result (now : Time) : (setNow now s).result = s.result := rfl
@[simp] theorem setNow_freeCount (now : Time) : (setNow now s).freeCount = s.freeCount := rfl

/-! `clearTickFlags` -/

@[simp] theorem clearTickFlags_params : (clearTickFlags s).params = s.params := rfl
@[simp] theorem clearTickFlags_hreg : (clearTickFlags s).hreg = s.hreg := rfl
@[simp] theorem clearTickFlags_pbuf : (clearTickFlags s).pbuf = s.pbuf := rfl
@[simp] theorem clearTickFlags_wqMem : (clearTickFlags s).wqMem = s.wqMem := rfl
@[simp] theorem clearTickFlags_wqHead : (clearTickFlags s).wqHead = s.wqHead := rfl
@[simp] theorem clearTickFlags_wqSize : (clearTickFlags s).wqSize = s.wqSize := rfl
@[simp] theorem clearTickFlags_txbuf : (clearTickFlags s).txbuf = s.txbuf := rfl
@[simp] theorem clearTickFlags_rxbuf : (clearTickFlags s).rxbuf = s.rxbuf := rfl
@[simp] theorem clearTickFlags_await : (clearTickFlags s).await = s.await := rfl
@[simp] theorem clearTickFlags_redirect : (clearTickFlags s).redirect = s.redirect := rfl
@[simp] theorem clearTickFlags_rclass : (clearTickFlags s).rclass = .none := rfl
@[simp] theorem clearTickFlags_rxOurs : (clearTickFlags s).rxOurs = false := rfl
@[simp] theorem clearTickFlags_errflag : (clearTickFlags s).errflag = s.errflag := rfl
@[simp] theorem clearTickFlags_excValid : (clearTickFlags s).excValid = s.excValid := rfl
@[simp] theorem clearTickFlags_excCode : (clearTickFlags s).excCode = s.excCode := rfl
@[simp] theorem clearTickFlags_devAddr : (clearTickFlags s).devAddr = s.devAddr := rfl
@[simp] theorem clearTickFlags_pacingMs : (clearTickFlags s).pacingMs = s.pacingMs := rfl
@[simp] theorem clearTickFlags_skipUnchanged : (clearTickFlags s).skipUnchanged = s.skipUnchanged := rfl
@[simp] theorem clearTickFlags_refreshDisable : (clearTickFlags s).refreshDisable = s.refreshDisable := rfl
@[simp] theorem clearTickFlags_replyCtr : (clearTickFlags s).replyCtr = s.replyCtr := rfl
@[simp] theorem clearTickFlags_retry : (clearTickFlags s).retry = s.retry := rfl
@[simp] theorem clearTickFlags_tLastTx : (clearTickFlags s).tLastTx = s.tLastTx := rfl
@[simp] theorem clearTickFlags_tCoarse : (clearTickFlags s).tCoarse = s.tCoarse := rfl
@[simp] theorem clearTickFlags_ppState : (clearTickFlags s).ppState = s.ppState := rfl
@[simp] theorem clearTickFlags_ppSnap : (clearTickFlags s).ppSnap = s.ppSnap := rfl
@[simp] theorem clearTickFlags_ppNr : (clearTickFlags s).ppNr = s.ppNr := rfl
@[simp] theorem clearTickFlags_preqPending : (clearTickFlags s).preqPending = s.preqPending := rfl
@[simp] theorem clearTickFlags_rxq : (clearTickFlags s).rxq = s.rxq := rfl
@[simp] theorem clearTickFlags_txlog : (clearTickFlags s).txlog = s.txlog := rfl
@[simp] theorem clearTickFlags_now : (clearTickFlags s).now = s.now := rfl
@[simp] theorem clearTickFlags_agenda : (clearTickFlags s).agenda = s.agenda := rfl
@[simp] theorem clearTickFlags_result : (clearTickFlags s).result = s.result := rfl
@[simp] theorem clearTickFlags_freeCount : (clearTickFlags s).freeCount = s.freeCount := rfl

/-! `stampCoarse` -/

@[simp] theorem stampCoarse_params : (stampCoarse s).params = s.params := rfl
@[simp] theorem stampCoarse_hreg : (stampCoarse s).hreg = s.hreg := rfl
@[simp] theorem stampCoarse_pbuf : (stampCoarse s).pbuf = s.pbuf := rfl
@[simp] theorem stampCoarse_wqMem : (stampCoarse s).wqMem = s.wqMem := rfl
@[simp] theorem stampCoarse_wqHead : (stampCoarse s).wqHead = s.wqHead := rfl
@[simp] theorem stampCoarse_wqSize : (stampCoarse s).wqSize = s.wqSize := rfl
@[simp] theorem stampCoarse_txbuf : (stampCoarse s).txbuf = s.txbuf := rfl
@[simp] theorem stampCoarse_rxbuf : (stampCoarse s).rxbuf = s.rxbuf := rfl
@[simp] theorem stampCoarse_await : (stampCoarse s).await = s.await := rfl
@[simp] theorem stampCoarse_redirect : (stampCoarse s).redirect = s.redirect := rfl
@[simp] theorem stampCoarse_rclass : (stampCoarse s).rclass = s.rclass := rfl
@[simp] theorem stampCoarse_rxOurs : (stampCoarse s).rxOurs = s.rxOurs := rfl
@[simp] theorem stampCoarse_errflag : (stampCoarse s).errflag = s.errflag := rfl
@[simp] theorem stampCoarse_excValid : (stampCoarse s).excValid = s.excValid := rfl
@[simp] theorem stampCoarse_excCode : (stampCoarse s).excCode = s.excCode := rfl
@[simp] theorem stampCoarse_devAddr : (stampCoarse s).devAddr = s.devAddr := rfl
@[simp] theorem stampCoarse_pacingMs : (stampCoarse s).pacingMs = s.pacingMs := rfl
@[simp] theorem stampCoarse_skipUnchanged : (stampCoarse s).skipUnchanged = s.skipUnchanged := rfl
@[simp] theorem stampCoarse_refreshDisable : (stampCoarse s).refreshDisable = s.refreshDisable := rfl
@[simp] theorem stampCoarse_replyCtr : (stampCoarse s).replyCtr = s.replyCtr := rfl
@[simp] theorem stampCoarse_retry : (stampCoarse s).retry = s.retry := rfl
@[simp] theorem stampCoarse_tLastTx : (stampCoarse s).tLastTx = s.tLastTx := rfl
@[simp] theorem stampCoarse_tCoarse : (stampCoarse s).tCoarse = s.now := rfl
@[simp] theorem stampCoarse_ppState : (stampCoarse s).ppState = s.ppState := rfl
@[simp] theorem stampCoarse_ppSnap : (stampCoarse s).ppSnap = s.ppSnap := rfl
@[simp] theorem stampCoarse_ppNr : (stampCoarse s).ppNr = s.ppNr := rfl
@[simp] theorem stampCoarse_preqPending : (stampCoarse s).preqPending = s.preqPending := rfl
@[simp] theorem stampCoarse_rxq : (stampCoarse s).rxq = s.rxq := rfl
@[simp] theorem stampCoarse_txlog : (stampCoarse s).txlog = s.txlog := rfl
@[simp] theorem stampCoarse_now : (stampCoarse s).now = s.now := rfl
@[simp] theorem stampCoarse_agenda : (stampCoarse s).agenda = s.agenda := rfl
@[simp] theorem stampCoarse_result : (stampCoarse s).result = s.result := rfl
@[simp] theorem stampCoarse_freeCount : (stampCoarse s).freeCount = s.freeCount := rfl

/-! `takeSlot` -/

@[simp] theorem takeSlot_params : (takeSlot s).params = s.params := rfl
@[simp] theorem takeSlot_hreg : (takeSlot s).hreg = s.hreg := rfl
@[simp] theorem takeSlot_pbuf : (takeSlot s).pbuf = s.pbuf := rfl
@[simp] theorem takeSlot_wqMem : (takeSlot s).wqMem = s.wqMem := rfl
@[simp] theorem takeSlot_wqHead : (takeSlot s).wqHead = s.wqHead := rfl
@[simp] theorem takeSlot_wqSize : (takeSlot s).wqSize = s.wqSize := rfl
@[simp] theorem takeSlot_txbuf : (takeSlot s).txbuf = [] := rfl
@[simp] theorem takeSlot_rxbuf : (takeSlot s).rxbuf = s.rxbuf := rfl
@[simp] theorem takeSlot_await : (takeSlot s).await = s.await := rfl
@[simp] theorem takeSlot_redirect : (takeSlot s).redirect = s.redirect := rfl
@[simp] theorem takeSlot_rclass : (takeSlot s).rclass = s.rclass := rfl
@[simp] theorem takeSlot_rxOurs : (takeSlot s).rxOurs = s.rxOurs := rfl
@[simp] theorem takeSlot_errflag : (takeSlot s).errflag = s.errflag := rfl
@[simp] theorem takeSlot_excValid : (takeSlot s).excValid = s.excValid := rfl
@[simp] theorem takeSlot_excCode : (takeSlot s).excCode = s.excCode := rfl
@[simp] theorem takeSlot_devAddr : (takeSlot s).devAddr = s.devAddr := rfl
@[simp] theorem takeSlot_pacingMs : (takeSlot s).pacingMs = s.pacingMs := rfl
@[simp] theorem takeSlot_skipUnchanged : (takeSlot s).skipUnchanged = s.skipUnchanged := rfl
@[simp] theorem takeSlot_refreshDisable : (takeSlot s).refreshDisable = s.refreshDisable := rfl
@[simp] theorem takeSlot_replyCtr : (takeSlot s).replyCtr = s.replyCtr := rfl
@[simp] theorem takeSlot_retry : (takeSlot s).retry = s.retry := rfl
@[simp] theorem takeSlot_tLastTx : (takeSlot s).tLastTx = s.tLastTx := rfl
@[simp] theorem takeSlot_tCoarse : (takeSlot s).tCoarse = s.tCoarse := rfl
@[simp] theorem takeSlot_ppState : (takeSlot s).ppState = s.ppState := rfl
@[simp] theorem takeSlot_ppSnap : (takeSlot s).ppSnap = s.ppSnap := rfl
@[simp] theorem takeSlot_ppNr : (takeSlot s).ppNr = s.ppNr := rfl
@[simp] theorem takeSlot_preqPending : (takeSlot s).preqPending = s.preqPending := rfl
@[simp] theorem takeSlot_rxq : (takeSlot s).rxq = s.rxq := rfl
@[simp] theorem takeSlot_txlog : (takeSlot s).txlog = s.txlog := rfl
@[simp] theorem takeSlot_now : (takeSlot s).now = s.now := rfl
@[simp] theorem takeSlot_agenda : (takeSlot s).agenda = s.agenda := rfl
@[simp] theorem takeSlot_result : (takeSlot s).result = s.result := rfl
@[simp] theorem takeSlot_freeCount : (takeSlot s).freeCount = s.freeCount := rfl

/-! `takePreset` -/

@[simp] theorem takePreset_params : (takePreset s).params = s.params := rfl
@[simp] theorem takePreset_hreg : (takePreset s).hreg = s.hreg := rfl
@[simp] theorem takePreset_pbuf : (takePreset s).pbuf = s.pbuf := rfl
@[simp] theorem takePreset_wqMem : (takePreset s).wqMem = s.wqMem := rfl
@[simp] theorem takePreset_wqHead : (takePreset s).wqHead = s.wqHead := rfl
@[simp] theorem takePreset_wqSize : (takePreset s).wqSize = s.wqSize := rfl
@[simp] theorem takePreset_txbuf : (takePreset s).txbuf = s.txbuf := rfl
@[simp] theorem takePreset_rxbuf : (takePreset s).rxbuf = s.rxbuf := rfl
@[simp] theorem takePreset_await : (takePreset s).await = s.await := rfl
@[simp] theorem takePreset_redirect : (takePreset s).redirect = true := rfl
@[simp] theorem takePreset_rclass : (takePreset s).rclass = s.rclass := rfl
@[simp] theorem takePreset_rxOurs : (takePreset s).rxOurs = s.rxOurs := rfl
@[simp] theorem takePreset_errflag : (takePreset s).errflag = s.errflag := rfl
@[simp] theorem takePreset_excValid : (takePreset s).excValid = s.excValid := rfl
@[simp] theorem takePreset_excCode : (takePreset s).excCode = s.excCode := rfl
@[simp] theorem takePreset_devAddr : (takePreset s).devAddr = s.devAddr := rfl
@[simp] theorem takePreset_pacingMs : (takePreset s).pacingMs = s.pacingMs := rfl
@[simp] theorem takePreset_skipUnchanged : (takePreset s).skipUnchanged = s.skipUnchanged := rfl
@[simp] theorem takePreset_refreshDisable : (takePreset s).refreshDisable = s.refreshDisable := rfl
@[simp] theorem takePreset_replyCtr : (takePreset s).replyCtr = s.replyCtr := rfl
@[simp] theorem takePreset_retry : (takePreset s).retry = s.retry := rfl
@[simp] theorem takePreset_tLastTx : (takePreset s).tLastTx = s.tLastTx := rfl
@[simp] theorem takePreset_tCoarse : (takePreset s).tCoarse = s.tCoarse := rfl
@[simp] theorem takePreset_ppState : (takePreset s).ppState = s.ppState := rfl
@[simp] theorem takePreset_ppSnap : (takePreset s).ppSnap = s.ppSnap := rfl
@[simp] theorem takePreset_ppNr : (takePreset s).ppNr = s.ppNr := rfl
@[simp] theorem takePreset_preqPending : (takePreset s).preqPending = false := rfl
@[simp] theorem takePreset_rxq : (takePreset s).rxq = s.rxq := rfl
@[simp] theorem takePreset_txlog : (takePreset s).txlog = s.txlog := rfl
@[simp] theorem takePreset_now : (takePreset s).now = s.now := rfl
@[simp] theorem takePreset_agenda : (takePreset s).agenda = s.agenda := rfl
@[simp] theorem takePreset_result : (takePreset s).result = s.result := rfl
@[simp] theorem takePreset_freeCount : (takePreset s).freeCount = s.freeCount := rfl

/-! `postPreset` -/

@[simp] theorem postPreset_params (nr : BankNr) : (postPreset nr s).params = s.params := rfl
@[simp] theorem postPreset_hreg (nr : BankNr) : (postPreset nr s).hreg = s.hreg := rfl
@[simp] theorem postPreset_pbuf (nr : BankNr) : (postPreset nr s).pbuf = s.pbuf := rfl
@[simp] theorem postPreset_wqMem (nr : BankNr) : (postPreset nr s).wqMem = s.wqMem := rfl
@[simp] theorem postPreset_wqHead (nr : BankNr) : (postPreset nr s).wqHead = s.wqHead := rfl
@[simp] theorem postPreset_wqSize (nr : BankNr) : (postPreset nr s).wqSize = s.wqSize := rfl
@[simp] theorem postPreset_txbuf (nr : BankNr) : (postPreset nr s).txbuf = s.txbuf := rfl
@[simp] theorem postPreset_rxbuf (nr : BankNr) : (postPreset nr s).rxbuf = s.rxbuf := rfl
@[simp] theorem postPreset_await (nr : BankNr) : (postPreset nr s).await = s.await := rfl
@[simp] theorem postPreset_redirect (nr : BankNr) : (postPreset nr s).redirect = s.redirect := rfl
@[simp] theorem postPreset_rclass (nr : BankNr) : (postPreset nr s).rclass = s.rclass := rfl
@[simp] theorem postPreset_rxOurs (nr : BankNr) : (postPreset nr s).rxOurs = s.rxOurs := rfl
@[simp] theorem postPreset_errflag (nr : BankNr) : (postPreset nr s).errflag = s.errflag := rfl
@[simp] theorem postPreset_excValid (nr : BankNr) : (postPreset nr s).excValid = s.excValid := rfl
@[simp] theorem postPreset_excCode (nr : BankNr) : (postPreset nr s).excCode = s.excCode := rfl
@[simp] theorem postPreset_devAddr (nr : BankNr) : (postPreset nr s).devAddr = s.devAddr := rfl
@[simp] theorem postPreset_pacingMs (nr : BankNr) : (postPreset nr s).pacingMs = s.pacingMs := rfl
@[simp] theorem postPreset_skipUnchanged (nr : BankNr) : (postPreset nr s).skipUnchanged = s.skipUnchanged := rfl
@[simp] theorem postPreset_refreshDisable (nr : BankNr) : (postPreset nr s).refreshDisable = s.refreshDisable := rfl
@[simp] theorem postPreset_replyCtr (nr : BankNr) : (postPreset nr s).replyCtr = s.replyCtr := rfl
@[simp] theorem postPreset_retry (nr : BankNr) : (postPreset nr s).retry = s.retry := rfl
@[simp] theorem postPreset_tLastTx (nr : BankNr) : (postPreset nr s).tLastTx = s.tLastTx := rfl
@[simp] theorem postPreset_tCoarse (nr : BankNr) : (postPreset nr s).tCoarse = s.tCoarse := rfl
@[simp] theorem postPreset_ppState (nr : BankNr) : (postPreset nr s).ppState = .wait := rfl
@[simp] theorem postPreset_ppSnap (nr : BankNr) : (postPreset nr s).ppSnap = s.replyCtr := rfl
@[simp] theorem postPreset_ppNr (nr : BankNr) : (postPreset nr s).ppNr = nr := rfl
@[simp] theorem postPreset_preqPending (nr : BankNr) : (postPreset nr s).preqPending = true := rfl
@[simp] theorem postPreset_rxq (nr : BankNr) : (postPreset nr s).rxq = s.rxq := rfl
@[simp] theorem postPreset_txlog (nr : BankNr) : (postPreset nr s).txlog = s.txlog := rfl
@[simp] theorem postPreset_now (nr : BankNr) : (postPreset nr s).now = s.now := rfl
@[simp] theorem postPreset_agenda (nr : BankNr) : (postPreset nr s).agenda = s.agenda := rfl
@[simp] theorem postPreset_result (nr : BankNr) : (postPreset nr s).result = s.result := rfl
@[simp] theorem postPreset_freeCount (nr : BankNr) : (postPreset nr s).freeCount = s.freeCount := rfl

/-! `finishPreset` -/

@[simp] theorem finishPreset_params : (finishPreset s).params = s.params := rfl
@[simp] theorem finishPreset_hreg : (finishPreset s).hreg = s.hreg := rfl
@[simp] theorem finishPreset_pbuf : (finishPreset s).pbuf = s.pbuf := rfl
@[simp] theorem finishPreset_wqMem : (finishPreset s).wqMem = s.wqMem := rfl
@[simp] theorem finishPreset_wqHead : (finishPreset s).wqHead = s.wqHead := rfl
@[simp] theorem finishPreset_wqSize : (finishPreset s).wqSize = s.wqSize := rfl
@[simp] theorem finishPreset_txbuf : (finishPreset s).txbuf = s.txbuf := rfl
@[simp] theorem finishPreset_rxbuf : (finishPreset s).rxbuf = s.rxbuf := rfl
@[simp] theorem finishPreset_await : (finishPreset s).await = s.await := rfl
@[simp] theorem finishPreset_redirect : (finishPreset s).redirect = false := rfl
@[simp] theorem finishPreset_rclass : (finishPreset s).rclass = s.rclass := rfl
@[simp] theorem finishPreset_rxOurs : (finishPreset s).rxOurs = s.rxOurs := rfl
@[simp] theorem finishPreset_errflag : (finishPreset s).errflag = s.errflag := rfl
@[simp] theorem finishPreset_excValid : (finishPreset s).excValid = s.excValid := rfl
@[simp] theorem finishPreset_excCode : (finishPreset s).excCode = s.excCode := rfl
@[simp] theorem finishPreset_devAddr : (finishPreset s).devAddr = s.devAddr := rfl
@[simp] theorem finishPreset_pacingMs : (finishPreset s).pacingMs = s.pacingMs := rfl
@[simp] theorem finishPreset_skipUnchanged : (finishPreset s).skipUnchanged = s.skipUnchanged := rfl
@[simp] theorem finishPreset_refreshDisable : (finishPreset s).refreshDisable = s.refreshDisable := rfl
@[simp] theorem finishPreset_replyCtr : (finishPreset s).replyCtr = s.replyCtr := rfl
@[simp] theorem finishPreset_retry : (finishPreset s).retry = s.retry := rfl
@[simp] theorem finishPreset_tLastTx : (finishPreset s).tLastTx = s.tLastTx := rfl
@[simp] theorem finishPreset_tCoarse : (finishPreset s).tCoarse = s.tCoarse := rfl
@[simp] theorem finishPreset_ppState : (finishPreset s).ppState = .send := rfl
@[simp] theorem finishPreset_ppSnap : (finishPreset s).ppSnap = s.ppSnap := rfl
@[simp] theorem finishPreset_ppNr : (finishPreset s).ppNr = s.ppNr := rfl
@[simp] theorem finishPreset_preqPending : (finishPreset s).preqPending = false := rfl
@[simp] theorem finishPreset_rxq : (finishPreset s).rxq = s.rxq := rfl
@[simp] theorem finishPreset_txlog : (finishPreset s).txlog = s.txlog := rfl
@[simp] theorem finishPreset_now : (finishPreset s).now = s.now := rfl
@[simp] theorem finishPreset_agenda : (finishPreset s).agenda = s.agenda := rfl
@[simp] theorem finishPreset_result : (finishPreset s).result = s.result := rfl
@[simp] theorem finishPreset_freeCount : (finishPreset s).freeCount = s.freeCount := rfl

/-! `prepare` -/

@[simp] theorem prepare_params (f : List Byte) : (prepare f s).params = s.params := rfl
@[simp] theorem prepare_hreg (f : List Byte) : (prepare f s).hreg = s.hreg := rfl
@[simp] theorem prepare_pbuf (f : List Byte) : (prepare f s).pbuf = s.pbuf := rfl
@[simp] theorem prepare_wqMem (f : List Byte) : (prepare f s).wqMem = s.wqMem := rfl
@[simp] theorem prepare_wqHead (f : List Byte) : (prepare f s).wqHead = s.wqHead := rfl
@[simp] theorem prepare_wqSize (f : List Byte) : (prepare f s).wqSize = s.wqSize := rfl
@[simp] theorem prepare_txbuf (f : List Byte) : (prepare f s).txbuf = f := rfl
@[simp] theorem prepare_rxbuf (f : List Byte) : (prepare f s).rxbuf = s.rxbuf := rfl
@[simp] theorem prepare_await (f : List Byte) : (prepare f s).await = s.await := rfl
@[simp] theorem prepare_redirect (f : List Byte) : (prepare f s).redirect = s.redirect := rfl
@[simp] theorem prepare_rclass (f : List Byte) : (prepare f s).rclass = s.rclass := rfl
@[simp] theorem prepare_rxOurs (f : List Byte) : (prepare f s).rxOurs = s.rxOurs := rfl
@[simp] theorem prepare_errflag (f : List Byte) : (prepare f s).errflag = s.errflag := rfl
@[simp] theorem prepare_excValid (f : List Byte) : (prepare f s).excValid = s.excValid := rfl
@[simp] theorem prepare_excCode (f : List Byte) : (prepare f s).excCode = s.excCode := rfl
@[simp] theorem prepare_devAddr (f : List Byte) : (prepare f s).devAddr = s.devAddr := rfl
@[simp] theorem prepare_pacingMs (f : List Byte) : (prepare f s).pacingMs = s.pacingMs := rfl
@[simp] theorem prepare_skipUnchanged (f : List Byte) : (prepare f s).skipUnchanged = s.skipUnchanged := rfl
@[simp] theorem prepare_refreshDisable (f : List Byte) : (prepare f s).refreshDisable = s.refreshDisable := rfl
@[simp] theorem prepare_replyCtr (f : List Byte) : (prepare f s).replyCtr = s.replyCtr := rfl
@[simp] theorem prepare_retry (f : List Byte) : (prepare f s).retry = s.retry := rfl
@[simp] theorem prepare_tLastTx (f : List Byte) : (prepare f s).tLastTx = s.tLastTx := rfl
@[simp] theorem prepare_tCoarse (f : List Byte) : (prepare f s).tCoarse = s.tCoarse := rfl
@[simp] theorem prepare_ppState (f : List Byte) : (prepare f s).ppState = s.ppState := rfl
@[simp] theorem prepare_ppSnap (f : List Byte) : (prepare f s).ppSnap = s.ppSnap := rfl
@[simp] theorem prepare_ppNr (f : List Byte) : (prepare f s).ppNr = s.ppNr := rfl
@[simp] theorem prepare_preqPending (f : List Byte) : (prepare f s).preqPending = s.preqPending := rfl
@[simp] theorem prepare_rxq (f : List Byte) : (prepare f s).rxq = s.rxq := rfl
@[simp] theorem prepare_txlog (f : List Byte) : (prepare f s).txlog = s.txlog := rfl
@[simp] theorem prepare_now (f : List Byte) : (prepare f s).now = s.now := rfl
@[simp] theorem prepare_agenda (f : List Byte) : (prepare f s).agenda = s.agenda := rfl
@[simp] theorem prepare_result (f : List Byte) : (prepare f s).result = s.result := rfl
@[simp] theorem prepare_freeCount (f : List Byte) : (prepare f s).freeCount = s.freeCount := rfl

/-! `takeAction` -/

@[simp] theorem takeAction_params (rest : List Action) : (takeAction rest s).params = s.params := rfl
@[simp] theorem takeAction_hreg (rest : List Action) : (takeAction rest s).hreg = s.hreg := rfl
@[simp] theorem takeAction_pbuf (rest : List Action) : (takeAction rest s).pbuf = s.pbuf := rfl
@[simp] theorem takeAction_wqMem (rest : List Action) : (takeAction rest s).wqMem = s.wqMem := rfl
@[simp] theorem takeAction_wqHead (rest : List Action) : (takeAction rest s).wqHead = s.wqHead := rfl
@[simp] theorem takeAction_wqSize (rest : List Action) : (takeAction rest s).wqSize = s.wqSize := rfl
@[simp] theorem takeAction_txbuf (rest : List Action) : (takeAction rest s).txbuf = s.txbuf := rfl
@[simp] theorem takeAction_rxbuf (rest : List Action) : (takeAction rest s).rxbuf = s.rxbuf := rfl
@[simp] theorem takeAction_await (rest : List Action) : (takeAction rest s).await = s.await := rfl
@[simp] theorem takeAction_redirect (rest : List Action) : (takeAction rest s).redirect = s.redirect := rfl
@[simp] theorem takeAction_rclass (rest : List Action) : (takeAction rest s).rclass = s.rclass := rfl
@[simp] theorem takeAction_rxOurs (rest : List Action) : (takeAction rest s).rxOurs = s.rxOurs := rfl
@[simp] theorem takeAction_errflag (rest : List Action) : (takeAction rest s).errflag = s.errflag := rfl
@[simp] theorem takeAction_excValid (rest : List Action) : (takeAction rest s).excValid = s.excValid := rfl
@[simp] theorem takeAction_excCode (rest : List Action) : (takeAction rest s).excCode = s.excCode := rfl
@[simp] theorem takeAction_devAddr (rest : List Action) : (takeAction rest s).devAddr = s.devAddr := rfl
@[simp] theorem takeAction_pacingMs (rest : List Action) : (takeAction rest s).pacingMs = s.pacingMs := rfl
@[simp] theorem takeAction_skipUnchanged (rest : List Action) : (takeAction rest s).skipUnchanged = s.skipUnchanged := rfl
@[simp] theorem takeAction_refreshDisable (rest : List Action) : (takeAction rest s).refreshDisable = s.refreshDisable := rfl
@[simp] theorem takeAction_replyCtr (rest : List Action) : (takeAction rest s).replyCtr = s.replyCtr := rfl
@[simp] theorem takeAction_retry (rest : List Action) : (takeAction rest s).retry = s.retry := rfl
@[simp] theorem takeAction_tLastTx (rest : List Action) : (takeAction rest s).tLastTx = s.tLastTx := rfl
@[simp] theorem takeAction_tCoarse (rest : List Action) : (takeAction rest s).tCoarse = s.tCoarse := rfl
@[simp] theorem takeAction_ppState (rest : List Action) : (takeAction rest s).ppState = s.ppState := rfl
@[simp] theorem takeAction_ppSnap (rest : List Action) : (takeAction rest s).ppSnap = s.ppSnap := rfl
@[simp] theorem takeAction_ppNr (rest : List Action) : (takeAction rest s).ppNr = s.ppNr := rfl
@[simp] theorem takeAction_preqPending (rest : List Action) : (takeAction rest s).preqPending = s.preqPending := rfl
@[simp] theorem takeAction_rxq (rest : List Action) : (takeAction rest s).rxq = s.rxq := rfl
@[simp] theorem takeAction_txlog (rest : List Action) : (takeAction rest s).txlog = s.txlog := rfl
@[simp] theorem takeAction_now (rest : List Action) : (takeAction rest s).now = s.now := rfl
@[simp] theorem takeAction_agenda (rest : List Action) : (takeAction rest s).agenda = rest := rfl
@[simp] theorem takeAction_result (rest : List Action) : (takeAction rest s).result = s.result := rfl
@[simp] theorem takeAction_freeCount (rest : List Action) : (takeAction rest s).freeCount = s.freeCount := rfl

/-! `raise`: the records of each event, and the fields no event touches -/

@[simp] theorem raise_params (e : Event) : (raise e s).params = s.params := by cases e <;> rfl
@[simp] theorem raise_hreg (e : Event) : (raise e s).hreg = s.hreg := by cases e <;> rfl
@[simp] theorem raise_pbuf (e : Event) : (raise e s).pbuf = s.pbuf := by cases e <;> rfl
@[simp] theorem raise_wqMem (e : Event) : (raise e s).wqMem = s.wqMem := by cases e <;> rfl
@[simp] theorem raise_wqHead (e : Event) : (raise e s).wqHead = s.wqHead := by cases e <;> rfl
@[simp] theorem raise_wqSize (e : Event) : (raise e s).wqSize = s.wqSize := by cases e <;> rfl
@[simp] theorem raise_txbuf (e : Event) : (raise e s).txbuf = s.txbuf := by cases e <;> rfl
@[simp] theorem raise_rxbuf (e : Event) : (raise e s).rxbuf = s.rxbuf := by cases e <;> rfl
@[simp] theorem raise_rclass (e : Event) : (raise e s).rclass = s.rclass := by cases e <;> rfl
@[simp] theorem raise_rxOurs (e : Event) : (raise e s).rxOurs = s.rxOurs := by cases e <;> rfl
@[simp] theorem raise_devAddr (e : Event) : (raise e s).devAddr = s.devAddr := by cases e <;> rfl
@[simp] theorem raise_pacingMs (e : Event) : (raise e s).pacingMs = s.pacingMs := by cases e <;> rfl
@[simp] theorem raise_skipUnchanged (e : Event) : (raise e s).skipUnchanged = s.skipUnchanged := by cases e <;> rfl
@[simp] theorem raise_refreshDisable (e : Event) : (raise e s).refreshDisable = s.refreshDisable := by cases e <;> rfl
@[simp] theorem raise_retry (e : Event) : (raise e s).retry = s.retry := by cases e <;> rfl
@[simp] theorem raise_tLastTx (e : Event) : (raise e s).tLastTx = s.tLastTx := by cases e <;> rfl
@[simp] theorem raise_tCoarse (e : Event) : (raise e s).tCoarse = s.tCoarse := by cases e <;> rfl
@[simp] theorem raise_ppState (e : Event) : (raise e s).ppState = s.ppState := by cases e <;> rfl
@[simp] theorem raise_ppSnap (e : Event) : (raise e s).ppSnap = s.ppSnap := by cases e <;> rfl
@[simp] theorem raise_ppNr (e : Event) : (raise e s).ppNr = s.ppNr := by cases e <;> rfl
@[simp] theorem raise_preqPending (e : Event) : (raise e s).preqPending = s.preqPending := by cases e <;> rfl
@[simp] theorem raise_rxq (e : Event) : (raise e s).rxq = s.rxq := by cases e <;> rfl
@[simp] theorem raise_txlog (e : Event) : (raise e s).txlog = s.txlog := by cases e <;> rfl
@[simp] theorem raise_now (e : Event) : (raise e s).now = s.now := by cases e <;> rfl
@[simp] theorem raise_agenda (e : Event) : (raise e s).agenda = s.agenda := by cases e <;> rfl
@[simp] theorem raise_result (e : Event) : (raise e s).result = s.result := by cases e <;> rfl
@[simp] theorem raise_freeCount (e : Event) : (raise e s).freeCount = s.freeCount := by cases e <;> rfl

/-! the sizes that follow from N_REGS, under the updates that keep the register file -/

theorem nRegs_def : s.nRegs = s.hreg.length := rfl
theorem rxbufCap_ge : 33 ≤ s.rxbufCap := by unfold State.rxbufCap State.maxPayload Config.bankWords; omega
theorem maxPayload_ge : 28 ≤ s.maxPayload := by unfold State.maxPayload Config.bankWords; omega
theorem maxPayload_congr {s t : State} (h : t.hreg.length = s.hreg.length) : t.maxPayload = s.maxPayload := by
  simp only [State.maxPayload, State.nRegs, h]
theorem rxbufCap_congr {s t : State} (h : t.hreg.length = s.hreg.length) : t.rxbufCap = s.rxbufCap := by
  simp only [State.rxbufCap, maxPayload_congr h]

end Sys2Proof.Machine
end

