-- ==== Sys2Proof/Laws/Frames.lean ====
section
/-! SUPPORT. What the routing, the phases and the whole tick leave unchanged, field by field. -/

namespace Sys2Proof.Machine

open Sys2Proof

variable (s : State)

/-! `routeReadReply` -/

@[simp] theorem routeReadReply_params (addr : Byte) (values : List Word) : (routeReadReply addr values s).params = s.params := by
  unfold routeReadReply; split <;> rfl
@[simp] theorem routeReadReply_wqMem (addr : Byte) (values : List Word) : (routeReadReply addr values s).wqMem = s.wqMem := by
  unfold routeReadReply; split <;> rfl
@[simp] theorem routeReadReply_wqHead (addr : Byte) (values : List Word) : (routeReadReply addr values s).wqHead = s.wqHead := by
  unfold routeReadReply; split <;> rfl
@[simp] theorem routeReadReply_wqSize (addr : Byte) (values : List Word) : (routeReadReply addr values s).wqSize = s.wqSize := by
  unfold routeReadReply; split <;> rfl
@[simp] theorem routeReadReply_txbuf (addr : Byte) (values : List Word) : (routeReadReply addr values s).txbuf = s.txbuf := by
  unfold routeReadReply; split <;> rfl
@[simp] theorem routeReadReply_devAddr (addr : Byte) (values : List Word) : (routeReadReply addr values s).devAddr = s.devAddr := by
  unfold routeReadReply; split <;> rfl
@[simp] theorem routeReadReply_pacingMs (addr : Byte) (values : List Word) : (routeReadReply addr values s).pacingMs = s.pacingMs := by
  unfold routeReadReply; split <;> rfl
@[simp] theorem routeReadReply_skipUnchanged (addr : Byte) (values : List Word) : (routeReadReply addr values s).skipUnchanged = s.skipUnchanged := by
  unfold routeReadReply; split <;> rfl
@[simp] theorem routeReadReply_refreshDisable (addr : Byte) (values : List Word) : (routeReadReply addr values s).refreshDisable = s.refreshDisable := by
  unfold routeReadReply; split <;> rfl
@[simp] theorem routeReadReply_retry (addr : Byte) (values : List Word) : (routeReadReply addr values s).retry = s.retry := by
  unfold routeReadReply; split <;> rfl
@[simp] theorem routeReadReply_tLastTx (addr : Byte) (values : List Word) : (routeReadReply addr values s).tLastTx = s.tLastTx := by
  unfold routeReadReply; split <;> rfl
@[simp] theorem routeReadReply_tCoarse (addr : Byte) (values : List Word) : (routeReadReply addr values s).tCoarse = s.tCoarse := by
  unfold routeReadReply; split <;> rfl
@[simp] theorem routeReadReply_ppState (addr : Byte) (values : List Word) : (routeReadReply addr values s).ppState = s.ppState := by
  unfold routeReadReply; split <;> rfl
@[simp] theorem routeReadReply_ppSnap (addr : Byte) (values : List Word) : (routeReadReply addr values s).ppSnap = s.ppSnap := by
  unfold routeReadReply; split <;> rfl
@[simp] theorem routeReadReply_ppNr (addr : Byte) (values : List Word) : (routeReadReply addr values s).ppNr = s.ppNr := by
  unfold routeReadReply; split <;> rfl
@[simp] theorem routeReadReply_preqPending (addr : Byte) (values : List Word) : (routeReadReply addr values s).preqPending = s.preqPending := by
  unfold routeReadReply; split <;> rfl
@[simp] theorem routeReadReply_rxq (addr : Byte) (values : List Word) : (routeReadReply addr values s).rxq = s.rxq := by
  unfold routeReadReply; split <;> rfl
@[simp] theorem routeReadReply_txlog (addr : Byte) (values : List Word) : (routeReadReply addr values s).txlog = s.txlog := by
  unfold routeReadReply; split <;> rfl
@[simp] theorem routeReadReply_now (addr : Byte) (values : List Word) : (routeReadReply addr values s).now = s.now := by
  unfold routeReadReply; split <;> rfl
@[simp] theorem routeReadReply_agenda (addr : Byte) (values : List Word) : (routeReadReply addr values s).agenda = s.agenda := by
  unfold routeReadReply; split <;> rfl
@[simp] theorem routeReadReply_result (addr : Byte) (values : List Word) : (routeReadReply addr values s).result = s.result := by
  unfold routeReadReply; split <;> rfl
@[simp] theorem routeReadReply_freeCount (addr : Byte) (values : List Word) : (routeReadReply addr values s).freeCount = s.freeCount := by
  unfold routeReadReply; split <;> rfl

/-! `route` -/

@[simp] theorem route_params (r : Reply) : (route r s).params = s.params := by
  cases r <;> simp [route, routeException, routeWriteSingle, routeWriteMultiple, routeMalformed]
@[simp] theorem route_wqMem (r : Reply) : (route r s).wqMem = s.wqMem := by
  cases r <;> simp [route, routeException, routeWriteSingle, routeWriteMultiple, routeMalformed]
@[simp] theorem route_wqHead (r : Reply) : (route r s).wqHead = s.wqHead := by
  cases r <;> simp [route, routeException, routeWriteSingle, routeWriteMultiple, routeMalformed]
@[simp] theorem route_wqSize (r : Reply) : (route r s).wqSize = s.wqSize := by
  cases r <;> simp [route, routeException, routeWriteSingle, routeWriteMultiple, routeMalformed]
@[simp] theorem route_txbuf (r : Reply) : (route r s).txbuf = s.txbuf := by
  cases r <;> simp [route, routeException, routeWriteSingle, routeWriteMultiple, routeMalformed]
@[simp] theorem route_devAddr (r : Reply) : (route r s).devAddr = s.devAddr := by
  cases r <;> simp [route, routeException, routeWriteSingle, routeWriteMultiple, routeMalformed]
@[simp] theorem route_pacingMs (r : Reply) : (route r s).pacingMs = s.pacingMs := by
  cases r <;> simp [route, routeException, routeWriteSingle, routeWriteMultiple, routeMalformed]
@[simp] theorem route_skipUnchanged (r : Reply) : (route r s).skipUnchanged = s.skipUnchanged := by
  cases r <;> simp [route, routeException, routeWriteSingle, routeWriteMultiple, routeMalformed]
@[simp] theorem route_refreshDisable (r : Reply) : (route r s).refreshDisable = s.refreshDisable := by
  cases r <;> simp [route, routeException, routeWriteSingle, routeWriteMultiple, routeMalformed]
@[simp] theorem route_retry (r : Reply) : (route r s).retry = s.retry := by
  cases r <;> simp [route, routeException, routeWriteSingle, routeWriteMultiple, routeMalformed]
@[simp] theorem route_tLastTx (r : Reply) : (route r s).tLastTx = s.tLastTx := by
  cases r <;> simp [route, routeException, routeWriteSingle, routeWriteMultiple, routeMalformed]
@[simp] theorem route_tCoarse (r : Reply) : (route r s).tCoarse = s.tCoarse := by
  cases r <;> simp [route, routeException, routeWriteSingle, routeWriteMultiple, routeMalformed]
@[simp] theorem route_ppState (r : Reply) : (route r s).ppState = s.ppState := by
  cases r <;> simp [route, routeException, routeWriteSingle, routeWriteMultiple, routeMalformed]
@[simp] theorem route_ppSnap (r : Reply) : (route r s).ppSnap = s.ppSnap := by
  cases r <;> simp [route, routeException, routeWriteSingle, routeWriteMultiple, routeMalformed]
@[simp] theorem route_ppNr (r : Reply) : (route r s).ppNr = s.ppNr := by
  cases r <;> simp [route, routeException, routeWriteSingle, routeWriteMultiple, routeMalformed]
@[simp] theorem route_preqPending (r : Reply) : (route r s).preqPending = s.preqPending := by
  cases r <;> simp [route, routeException, routeWriteSingle, routeWriteMultiple, routeMalformed]
@[simp] theorem route_rxq (r : Reply) : (route r s).rxq = s.rxq := by
  cases r <;> simp [route, routeException, routeWriteSingle, routeWriteMultiple, routeMalformed]
@[simp] theorem route_txlog (r : Reply) : (route r s).txlog = s.txlog := by
  cases r <;> simp [route, routeException, routeWriteSingle, routeWriteMultiple, routeMalformed]
@[simp] theorem route_now (r : Reply) : (route r s).now = s.now := by
  cases r <;> simp [route, routeException, routeWriteSingle, routeWriteMultiple, routeMalformed]
@[simp] theorem route_agenda (r : Reply) : (route r s).agenda = s.agenda := by
  cases r <;> simp [route, routeException, routeWriteSingle, routeWriteMultiple, routeMalformed]
@[simp] theorem route_result (r : Reply) : (route r s).result = s.result := by
  cases r <;> simp [route, routeException, routeWriteSingle, routeWriteMultiple, routeMalformed]
@[simp] theorem route_freeCount (r : Reply) : (route r s).freeCount = s.freeCount := by
  cases r <;> simp [route, routeException, routeWriteSingle, routeWriteMultiple, routeMalformed]

/-! `classify` (phase 1b) -/

@[simp] theorem classify_params : (classify s).params = s.params := by
  unfold classify; split <;> simp
@[simp] theorem classify_wqMem : (classify s).wqMem = s.wqMem := by
  unfold classify; split <;> simp
@[simp] theorem classify_wqHead : (classify s).wqHead = s.wqHead := by
  unfold classify; split <;> simp
@[simp] theorem classify_wqSize : (classify s).wqSize = s.wqSize := by
  unfold classify; split <;> simp
@[simp] theorem classify_txbuf : (classify s).txbuf = s.txbuf := by
  unfold classify; split <;> simp
@[simp] theorem classify_devAddr : (classify s).devAddr = s.devAddr := by
  unfold classify; split <;> simp
@[simp] theorem classify_pacingMs : (classify s).pacingMs = s.pacingMs := by
  unfold classify; split <;> simp
@[simp] theorem classify_skipUnchanged : (classify s).skipUnchanged = s.skipUnchanged := by
  unfold classify; split <;> simp
@[simp] theorem classify_refreshDisable : (classify s).refreshDisable = s.refreshDisable := by
  unfold classify; split <;> simp
@[simp] theorem classify_retry : (classify s).retry = s.retry := by
  unfold classify; split <;> simp
@[simp] theorem classify_tLastTx : (classify s).tLastTx = s.tLastTx := by
  unfold classify; split <;> simp
@[simp] theorem classify_tCoarse : (classify s).tCoarse = s.tCoarse := by
  unfold classify; split <;> simp
@[simp] theorem classify_ppState : (classify s).ppState = s.ppState := by
  unfold classify; split <;> simp
@[simp] theorem classify_ppSnap : (classify s).ppSnap = s.ppSnap := by
  unfold classify; split <;> simp
@[simp] theorem classify_ppNr : (classify s).ppNr = s.ppNr := by
  unfold classify; split <;> simp
@[simp] theorem classify_preqPending : (classify s).preqPending = s.preqPending := by
  unfold classify; split <;> simp
@[simp] theorem classify_rxq : (classify s).rxq = s.rxq := by
  unfold classify; split <;> simp
@[simp] theorem classify_txlog : (classify s).txlog = s.txlog := by
  unfold classify; split <;> simp
@[simp] theorem classify_now : (classify s).now = s.now := by
  unfold classify; split <;> simp
@[simp] theorem classify_agenda : (classify s).agenda = s.agenda := by
  unfold classify; split <;> simp
@[simp] theorem classify_result : (classify s).result = s.result := by
  unfold classify; split <;> simp
@[simp] theorem classify_freeCount : (classify s).freeCount = s.freeCount := by
  unfold classify; split <;> simp

/-! `phase1` -/

@[simp] theorem phase1_params : (phase1 s).params = s.params := by
  simp [phase1]
@[simp] theorem phase1_wqMem : (phase1 s).wqMem = s.wqMem := by
  simp [phase1]
@[simp] theorem phase1_wqHead : (phase1 s).wqHead = s.wqHead := by
  simp [phase1]
@[simp] theorem phase1_wqSize : (phase1 s).wqSize = s.wqSize := by
  simp [phase1]
@[simp] theorem phase1_txbuf : (phase1 s).txbuf = s.txbuf := by
  simp [phase1]
@[simp] theorem phase1_devAddr : (phase1 s).devAddr = s.devAddr := by
  simp [phase1]
@[simp] theorem phase1_pacingMs : (phase1 s).pacingMs = s.pacingMs := by
  simp [phase1]
@[simp] theorem phase1_skipUnchanged : (phase1 s).skipUnchanged = s.skipUnchanged := by
  simp [phase1]
@[simp] theorem phase1_refreshDisable : (phase1 s).refreshDisable = s.refreshDisable := by
  simp [phase1]
@[simp] theorem phase1_retry : (phase1 s).retry = s.retry := by
  simp [phase1]
@[simp] theorem phase1_tLastTx : (phase1 s).tLastTx = s.tLastTx := by
  simp [phase1]
@[simp] theorem phase1_tCoarse : (phase1 s).tCoarse = s.tCoarse := by
  simp [phase1]
@[simp] theorem phase1_ppState : (phase1 s).ppState = s.ppState := by
  simp [phase1]
@[simp] theorem phase1_ppSnap : (phase1 s).ppSnap = s.ppSnap := by
  simp [phase1]
@[simp] theorem phase1_ppNr : (phase1 s).ppNr = s.ppNr := by
  simp [phase1]
@[simp] theorem phase1_preqPending : (phase1 s).preqPending = s.preqPending := by
  simp [phase1]
@[simp] theorem phase1_txlog : (phase1 s).txlog = s.txlog := by
  simp [phase1]
@[simp] theorem phase1_now : (phase1 s).now = s.now := by
  simp [phase1]
@[simp] theorem phase1_agenda : (phase1 s).agenda = s.agenda := by
  simp [phase1]
@[simp] theorem phase1_result : (phase1 s).result = s.result := by
  simp [phase1]
@[simp] theorem phase1_freeCount : (phase1 s).freeCount = s.freeCount := by
  simp [phase1]

/-! `reload` (phase 2a) -/

@[simp] theorem reload_params : (reload s).params = s.params := by
  unfold reload; split <;> rfl
@[simp] theorem reload_hreg : (reload s).hreg = s.hreg := by
  unfold reload; split <;> rfl
@[simp] theorem reload_pbuf : (reload s).pbuf = s.pbuf := by
  unfold reload; split <;> rfl
@[simp] theorem reload_wqMem : (reload s).wqMem = s.wqMem := by
  unfold reload; split <;> rfl
@[simp] theorem reload_wqHead : (reload s).wqHead = s.wqHead := by
  unfold reload; split <;> rfl
@[simp] theorem reload_wqSize : (reload s).wqSize = s.wqSize := by
  unfold reload; split <;> rfl
@[simp] theorem reload_txbuf : (reload s).txbuf = s.txbuf := by
  unfold reload; split <;> rfl
@[simp] theorem reload_rxbuf : (reload s).rxbuf = s.rxbuf := by
  unfold reload; split <;> rfl
@[simp] theorem reload_await : (reload s).await = s.await := by
  unfold reload; split <;> rfl
@[simp] theorem reload_redirect : (reload s).redirect = s.redirect := by
  unfold reload; split <;> rfl
@[simp] theorem reload_rclass : (reload s).rclass = s.rclass := by
  unfold reload; split <;> rfl
@[simp] theorem reload_rxOurs : (reload s).rxOurs = s.rxOurs := by
  unfold reload; split <;> rfl
@[simp] theorem reload_errflag : (reload s).errflag = s.errflag := by
  unfold reload; split <;> rfl
@[simp] theorem reload_excValid : (reload s).excValid = s.excValid := by
  unfold reload; split <;> rfl
@[simp] theorem reload_excCode : (reload s).excCode = s.excCode := by
  unfold reload; split <;> rfl
@[simp] theorem reload_devAddr : (reload s).devAddr = s.devAddr := by
  unfold reload; split <;> rfl
@[simp] theorem reload_pacingMs : (reload s).pacingMs = s.pacingMs := by
  unfold reload; split <;> rfl
@[simp] theorem reload_skipUnchanged : (reload s).skipUnchanged = s.skipUnchanged := by
  unfold reload; split <;> rfl
@[simp] theorem reload_refreshDisable : (reload s).refreshDisable = s.refreshDisable := by
  unfold reload; split <;> rfl
@[simp] theorem reload_replyCtr : (reload s).replyCtr = s.replyCtr := by
  unfold reload; split <;> rfl
@[simp] theorem reload_tLastTx : (reload s).tLastTx = s.tLastTx := by
  unfold reload; split <;> rfl
@[simp] theorem reload_tCoarse : (reload s).tCoarse = s.tCoarse := by
  unfold reload; split <;> rfl
@[simp] theorem reload_ppState : (reload s).ppState = s.ppState := by
  unfold reload; split <;> rfl
@[simp] theorem reload_ppSnap : (reload s).ppSnap = s.ppSnap := by
  unfold reload; split <;> rfl
@[simp] theorem reload_ppNr : (reload s).ppNr = s.ppNr := by
  unfold reload; split <;> rfl
@[simp] theorem reload_preqPending : (reload s).preqPending = s.preqPending := by
  unfold reload; split <;> rfl
@[simp] theorem reload_rxq : (reload s).rxq = s.rxq := by
  unfold reload; split <;> rfl
@[simp] theorem reload_txlog : (reload s).txlog = s.txlog := by
  unfold reload; split <;> rfl
@[simp] theorem reload_now : (reload s).now = s.now := by
  unfold reload; split <;> rfl
@[simp] theorem reload_agenda : (reload s).agenda = s.agenda := by
  unfold reload; split <;> rfl
@[simp] theorem reload_result : (reload s).result = s.result := by
  unfold reload; split <;> rfl
@[simp] theorem reload_freeCount : (reload s).freeCount = s.freeCount := by
  unfold reload; split <;> rfl

/-! `spend` -/

@[simp] theorem spend_params : (spend s).params = s.params := by
  unfold spend; split <;> simp
@[simp] theorem spend_hreg : (spend s).hreg = s.hreg := by
  unfold spend; split <;> simp
@[simp] theorem spend_pbuf : (spend s).pbuf = s.pbuf := by
  unfold spend; split <;> simp
@[simp] theorem spend_wqMem : (spend s).wqMem = s.wqMem := by
  unfold spend; split <;> simp
@[simp] theorem spend_wqHead : (spend s).wqHead = s.wqHead := by
  unfold spend; split <;> simp
@[simp] theorem spend_wqSize : (spend s).wqSize = s.wqSize := by
  unfold spend; split <;> simp
@[simp] theorem spend_txbuf : (spend s).txbuf = s.txbuf := by
  unfold spend; split <;> simp
@[simp] theorem spend_rclass : (spend s).rclass = s.rclass := by
  unfold spend; split <;> simp
@[simp] theorem spend_rxOurs : (spend s).rxOurs = s.rxOurs := by
  unfold spend; split <;> simp
@[simp] theorem spend_errflag : (spend s).errflag = s.errflag := by
  unfold spend; split <;> simp
@[simp] theorem spend_excValid : (spend s).excValid = s.excValid := by
  unfold spend; split <;> simp
@[simp] theorem spend_excCode : (spend s).excCode = s.excCode := by
  unfold spend; split <;> simp
@[simp] theorem spend_devAddr : (spend s).devAddr = s.devAddr := by
  unfold spend; split <;> simp
@[simp] theorem spend_pacingMs : (spend s).pacingMs = s.pacingMs := by
  unfold spend; split <;> simp
@[simp] theorem spend_skipUnchanged : (spend s).skipUnchanged = s.skipUnchanged := by
  unfold spend; split <;> simp
@[simp] theorem spend_refreshDisable : (spend s).refreshDisable = s.refreshDisable := by
  unfold spend; split <;> simp
@[simp] theorem spend_tLastTx : (spend s).tLastTx = s.tLastTx := by
  unfold spend; split <;> simp
@[simp] theorem spend_tCoarse : (spend s).tCoarse = s.tCoarse := by
  unfold spend; split <;> simp
@[simp] theorem spend_ppState : (spend s).ppState = s.ppState := by
  unfold spend; split <;> simp
@[simp] theorem spend_ppSnap : (spend s).ppSnap = s.ppSnap := by
  unfold spend; split <;> simp
@[simp] theorem spend_ppNr : (spend s).ppNr = s.ppNr := by
  unfold spend; split <;> simp
@[simp] theorem spend_preqPending : (spend s).preqPending = s.preqPending := by
  unfold spend; split <;> simp
@[simp] theorem spend_rxq : (spend s).rxq = s.rxq := by
  unfold spend; split <;> simp
@[simp] theorem spend_txlog : (spend s).txlog = s.txlog := by
  unfold spend; split <;> simp
@[simp] theorem spend_now : (spend s).now = s.now := by
  unfold spend; split <;> simp
@[simp] theorem spend_agenda : (spend s).agenda = s.agenda := by
  unfold spend; split <;> simp
@[simp] theorem spend_result : (spend s).result = s.result := by
  unfold spend; split <;> simp
@[simp] theorem spend_freeCount : (spend s).freeCount = s.freeCount := by
  unfold spend; split <;> simp

/-! `coarse` (phase 2b) -/

@[simp] theorem coarse_params : (coarse s).params = s.params := by
  unfold coarse; split <;> (try split) <;> simp
@[simp] theorem coarse_hreg : (coarse s).hreg = s.hreg := by
  unfold coarse; split <;> (try split) <;> simp
@[simp] theorem coarse_pbuf : (coarse s).pbuf = s.pbuf := by
  unfold coarse; split <;> (try split) <;> simp
@[simp] theorem coarse_wqMem : (coarse s).wqMem = s.wqMem := by
  unfold coarse; split <;> (try split) <;> simp
@[simp] theorem coarse_wqHead : (coarse s).wqHead = s.wqHead := by
  unfold coarse; split <;> (try split) <;> simp
@[simp] theorem coarse_wqSize : (coarse s).wqSize = s.wqSize := by
  unfold coarse; split <;> (try split) <;> simp
@[simp] theorem coarse_txbuf : (coarse s).txbuf = s.txbuf := by
  unfold coarse; split <;> (try split) <;> simp
@[simp] theorem coarse_rclass : (coarse s).rclass = s.rclass := by
  unfold coarse; split <;> (try split) <;> simp
@[simp] theorem coarse_rxOurs : (coarse s).rxOurs = s.rxOurs := by
  unfold coarse; split <;> (try split) <;> simp
@[simp] theorem coarse_errflag : (coarse s).errflag = s.errflag := by
  unfold coarse; split <;> (try split) <;> simp
@[simp] theorem coarse_excValid : (coarse s).excValid = s.excValid := by
  unfold coarse; split <;> (try split) <;> simp
@[simp] theorem coarse_excCode : (coarse s).excCode = s.excCode := by
  unfold coarse; split <;> (try split) <;> simp
@[simp] theorem coarse_devAddr : (coarse s).devAddr = s.devAddr := by
  unfold coarse; split <;> (try split) <;> simp
@[simp] theorem coarse_pacingMs : (coarse s).pacingMs = s.pacingMs := by
  unfold coarse; split <;> (try split) <;> simp
@[simp] theorem coarse_skipUnchanged : (coarse s).skipUnchanged = s.skipUnchanged := by
  unfold coarse; split <;> (try split) <;> simp
@[simp] theorem coarse_refreshDisable : (coarse s).refreshDisable = s.refreshDisable := by
  unfold coarse; split <;> (try split) <;> simp
@[simp] theorem coarse_tLastTx : (coarse s).tLastTx = s.tLastTx := by
  unfold coarse; split <;> (try split) <;> simp
@[simp] theorem coarse_ppState : (coarse s).ppState = s.ppState := by
  unfold coarse; split <;> (try split) <;> simp
@[simp] theorem coarse_ppSnap : (coarse s).ppSnap = s.ppSnap := by
  unfold coarse; split <;> (try split) <;> simp
@[simp] theorem coarse_ppNr : (coarse s).ppNr = s.ppNr := by
  unfold coarse; split <;> (try split) <;> simp
@[simp] theorem coarse_preqPending : (coarse s).preqPending = s.preqPending := by
  unfold coarse; split <;> (try split) <;> simp
@[simp] theorem coarse_rxq : (coarse s).rxq = s.rxq := by
  unfold coarse; split <;> (try split) <;> simp
@[simp] theorem coarse_txlog : (coarse s).txlog = s.txlog := by
  unfold coarse; split <;> (try split) <;> simp
@[simp] theorem coarse_now : (coarse s).now = s.now := by
  unfold coarse; split <;> (try split) <;> simp
@[simp] theorem coarse_agenda : (coarse s).agenda = s.agenda := by
  unfold coarse; split <;> (try split) <;> simp
@[simp] theorem coarse_result : (coarse s).result = s.result := by
  unfold coarse; split <;> (try split) <;> simp
@[simp] theorem coarse_freeCount : (coarse s).freeCount = s.freeCount := by
  unfold coarse; split <;> (try split) <;> simp

/-! `phase2` -/

@[simp] theorem phase2_params : (phase2 s).params = s.params := by
  simp [phase2]
@[simp] theorem phase2_hreg : (phase2 s).hreg = s.hreg := by
  simp [phase2]
@[simp] theorem phase2_pbuf : (phase2 s).pbuf = s.pbuf := by
  simp [phase2]
@[simp] theorem phase2_wqMem : (phase2 s).wqMem = s.wqMem := by
  simp [phase2]
@[simp] theorem phase2_wqHead : (phase2 s).wqHead = s.wqHead := by
  simp [phase2]
@[simp] theorem phase2_wqSize : (phase2 s).wqSize = s.wqSize := by
  simp [phase2]
@[simp] theorem phase2_txbuf : (phase2 s).txbuf = s.txbuf := by
  simp [phase2]
@[simp] theorem phase2_rclass : (phase2 s).rclass = s.rclass := by
  simp [phase2]
@[simp] theorem phase2_rxOurs : (phase2 s).rxOurs = s.rxOurs := by
  simp [phase2]
@[simp] theorem phase2_errflag : (phase2 s).errflag = s.errflag := by
  simp [phase2]
@[simp] theorem phase2_excValid : (phase2 s).excValid = s.excValid := by
  simp [phase2]
@[simp] theorem phase2_excCode : (phase2 s).excCode = s.excCode := by
  simp [phase2]
@[simp] theorem phase2_devAddr : (phase2 s).devAddr = s.devAddr := by
  simp [phase2]
@[simp] theorem phase2_pacingMs : (phase2 s).pacingMs = s.pacingMs := by
  simp [phase2]
@[simp] theorem phase2_skipUnchanged : (phase2 s).skipUnchanged = s.skipUnchanged := by
  simp [phase2]
@[simp] theorem phase2_refreshDisable : (phase2 s).refreshDisable = s.refreshDisable := by
  simp [phase2]
@[simp] theorem phase2_tLastTx : (phase2 s).tLastTx = s.tLastTx := by
  simp [phase2]
@[simp] theorem phase2_ppState : (phase2 s).ppState = s.ppState := by
  simp [phase2]
@[simp] theorem phase2_ppSnap : (phase2 s).ppSnap = s.ppSnap := by
  simp [phase2]
@[simp] theorem phase2_ppNr : (phase2 s).ppNr = s.ppNr := by
  simp [phase2]
@[simp] theorem phase2_preqPending : (phase2 s).preqPending = s.preqPending := by
  simp [phase2]
@[simp] theorem phase2_rxq : (phase2 s).rxq = s.rxq := by
  simp [phase2]
@[simp] theorem phase2_txlog : (phase2 s).txlog = s.txlog := by
  simp [phase2]
@[simp] theorem phase2_now : (phase2 s).now = s.now := by
  simp [phase2]
@[simp] theorem phase2_agenda : (phase2 s).agenda = s.agenda := by
  simp [phase2]
@[simp] theorem phase2_result : (phase2 s).result = s.result := by
  simp [phase2]
@[simp] theorem phase2_freeCount : (phase2 s).freeCount = s.freeCount := by
  simp [phase2]

/-- What a pop leaves: only the queue's head and size move. -/
theorem pop_some {s t : State} {e : PendingWrite} (h : pop s = some (e, t)) :
    s.wqSize.val ≠ 0 ∧ e = queueAt s 0 ∧
      t = { s with
        wqHead := ⟨(s.wqHead.val + 1) % 16, Nat.mod_lt _ (by decide)⟩
        wqSize := ⟨s.wqSize.val - 1, by omega⟩ } := by
  unfold pop at h
  split at h
  · cases h
  · next hn => cases h; exact ⟨hn, rfl, rfl⟩

/-- A pop answers none exactly on an empty queue. -/
theorem pop_none {s : State} (h : pop s = none) : s.wqSize.val = 0 := by
  unfold pop at h; split at h
  · assumption
  · cases h

/-- What a push leaves: only the slot of the new entry and the size. -/
theorem push_some {s t : State} {e : PendingWrite} (h : push e s = some t) :
    ∃ hs : s.wqSize.val < 16, t = { s with
      wqMem := s.wqMem.set (queueSlot s s.wqSize.val) e (Nat.mod_lt _ (by decide))
      wqSize := ⟨s.wqSize.val + 1, by omega⟩ } := by
  unfold push at h
  split at h
  · next hs => cases h; exact ⟨hs, rfl⟩
  · cases h

/-- A push answers none exactly on a full queue. -/
theorem push_none {s : State} {e : PendingWrite} (h : push e s = none) : 16 ≤ s.wqSize.val := by
  unfold push at h; split at h
  · cases h
  · omega

/-! `priority2` -/

@[simp] theorem priority2_params : (priority2 s).params = s.params := by
  unfold priority2; split
  · next e t h => obtain ⟨-, -, rfl⟩ := pop_some h; split <;> rfl
  · rfl
@[simp] theorem priority2_hreg : (priority2 s).hreg = s.hreg := by
  unfold priority2; split
  · next e t h => obtain ⟨-, -, rfl⟩ := pop_some h; split <;> rfl
  · rfl
@[simp] theorem priority2_pbuf : (priority2 s).pbuf = s.pbuf := by
  unfold priority2; split
  · next e t h => obtain ⟨-, -, rfl⟩ := pop_some h; split <;> rfl
  · rfl
@[simp] theorem priority2_wqMem : (priority2 s).wqMem = s.wqMem := by
  unfold priority2; split
  · next e t h => obtain ⟨-, -, rfl⟩ := pop_some h; split <;> rfl
  · rfl
@[simp] theorem priority2_txbuf : (priority2 s).txbuf = s.txbuf := by
  unfold priority2; split
  · next e t h => obtain ⟨-, -, rfl⟩ := pop_some h; split <;> rfl
  · rfl
@[simp] theorem priority2_redirect : (priority2 s).redirect = s.redirect := by
  unfold priority2; split
  · next e t h => obtain ⟨-, -, rfl⟩ := pop_some h; split <;> rfl
  · rfl
@[simp] theorem priority2_rclass : (priority2 s).rclass = s.rclass := by
  unfold priority2; split
  · next e t h => obtain ⟨-, -, rfl⟩ := pop_some h; split <;> rfl
  · rfl
@[simp] theorem priority2_rxOurs : (priority2 s).rxOurs = s.rxOurs := by
  unfold priority2; split
  · next e t h => obtain ⟨-, -, rfl⟩ := pop_some h; split <;> rfl
  · rfl
@[simp] theorem priority2_errflag : (priority2 s).errflag = s.errflag := by
  unfold priority2; split
  · next e t h => obtain ⟨-, -, rfl⟩ := pop_some h; split <;> rfl
  · rfl
@[simp] theorem priority2_excValid : (priority2 s).excValid = s.excValid := by
  unfold priority2; split
  · next e t h => obtain ⟨-, -, rfl⟩ := pop_some h; split <;> rfl
  · rfl
@[simp] theorem priority2_excCode : (priority2 s).excCode = s.excCode := by
  unfold priority2; split
  · next e t h => obtain ⟨-, -, rfl⟩ := pop_some h; split <;> rfl
  · rfl
@[simp] theorem priority2_devAddr : (priority2 s).devAddr = s.devAddr := by
  unfold priority2; split
  · next e t h => obtain ⟨-, -, rfl⟩ := pop_some h; split <;> rfl
  · rfl
@[simp] theorem priority2_pacingMs : (priority2 s).pacingMs = s.pacingMs := by
  unfold priority2; split
  · next e t h => obtain ⟨-, -, rfl⟩ := pop_some h; split <;> rfl
  · rfl
@[simp] theorem priority2_skipUnchanged : (priority2 s).skipUnchanged = s.skipUnchanged := by
  unfold priority2; split
  · next e t h => obtain ⟨-, -, rfl⟩ := pop_some h; split <;> rfl
  · rfl
@[simp] theorem priority2_refreshDisable : (priority2 s).refreshDisable = s.refreshDisable := by
  unfold priority2; split
  · next e t h => obtain ⟨-, -, rfl⟩ := pop_some h; split <;> rfl
  · rfl
@[simp] theorem priority2_replyCtr : (priority2 s).replyCtr = s.replyCtr := by
  unfold priority2; split
  · next e t h => obtain ⟨-, -, rfl⟩ := pop_some h; split <;> rfl
  · rfl
@[simp] theorem priority2_retry : (priority2 s).retry = s.retry := by
  unfold priority2; split
  · next e t h => obtain ⟨-, -, rfl⟩ := pop_some h; split <;> rfl
  · rfl
@[simp] theorem priority2_tCoarse : (priority2 s).tCoarse = s.tCoarse := by
  unfold priority2; split
  · next e t h => obtain ⟨-, -, rfl⟩ := pop_some h; split <;> rfl
  · rfl
@[simp] theorem priority2_ppState : (priority2 s).ppState = s.ppState := by
  unfold priority2; split
  · next e t h => obtain ⟨-, -, rfl⟩ := pop_some h; split <;> rfl
  · rfl
@[simp] theorem priority2_ppSnap : (priority2 s).ppSnap = s.ppSnap := by
  unfold priority2; split
  · next e t h => obtain ⟨-, -, rfl⟩ := pop_some h; split <;> rfl
  · rfl
@[simp] theorem priority2_ppNr : (priority2 s).ppNr = s.ppNr := by
  unfold priority2; split
  · next e t h => obtain ⟨-, -, rfl⟩ := pop_some h; split <;> rfl
  · rfl
@[simp] theorem priority2_preqPending : (priority2 s).preqPending = s.preqPending := by
  unfold priority2; split
  · next e t h => obtain ⟨-, -, rfl⟩ := pop_some h; split <;> rfl
  · rfl
@[simp] theorem priority2_rxq : (priority2 s).rxq = s.rxq := by
  unfold priority2; split
  · next e t h => obtain ⟨-, -, rfl⟩ := pop_some h; split <;> rfl
  · rfl
@[simp] theorem priority2_now : (priority2 s).now = s.now := by
  unfold priority2; split
  · next e t h => obtain ⟨-, -, rfl⟩ := pop_some h; split <;> rfl
  · rfl
@[simp] theorem priority2_agenda : (priority2 s).agenda = s.agenda := by
  unfold priority2; split
  · next e t h => obtain ⟨-, -, rfl⟩ := pop_some h; split <;> rfl
  · rfl
@[simp] theorem priority2_result : (priority2 s).result = s.result := by
  unfold priority2; split
  · next e t h => obtain ⟨-, -, rfl⟩ := pop_some h; split <;> rfl
  · rfl
@[simp] theorem priority2_freeCount : (priority2 s).freeCount = s.freeCount := by
  unfold priority2; split
  · next e t h => obtain ⟨-, -, rfl⟩ := pop_some h; split <;> rfl
  · rfl

/-! `phase3` -/

@[simp] theorem phase3_params : (phase3 s).params = s.params := by
  unfold phase3; (repeat' split) <;> simp [priority1, priority3, priority4]
@[simp] theorem phase3_hreg : (phase3 s).hreg = s.hreg := by
  unfold phase3; (repeat' split) <;> simp [priority1, priority3, priority4]
@[simp] theorem phase3_pbuf : (phase3 s).pbuf = s.pbuf := by
  unfold phase3; (repeat' split) <;> simp [priority1, priority3, priority4]
@[simp] theorem phase3_wqMem : (phase3 s).wqMem = s.wqMem := by
  unfold phase3; (repeat' split) <;> simp [priority1, priority3, priority4]
@[simp] theorem phase3_rclass : (phase3 s).rclass = s.rclass := by
  unfold phase3; (repeat' split) <;> simp [priority1, priority3, priority4]
@[simp] theorem phase3_rxOurs : (phase3 s).rxOurs = s.rxOurs := by
  unfold phase3; (repeat' split) <;> simp [priority1, priority3, priority4]
@[simp] theorem phase3_errflag : (phase3 s).errflag = s.errflag := by
  unfold phase3; (repeat' split) <;> simp [priority1, priority3, priority4]
@[simp] theorem phase3_excValid : (phase3 s).excValid = s.excValid := by
  unfold phase3; (repeat' split) <;> simp [priority1, priority3, priority4]
@[simp] theorem phase3_excCode : (phase3 s).excCode = s.excCode := by
  unfold phase3; (repeat' split) <;> simp [priority1, priority3, priority4]
@[simp] theorem phase3_devAddr : (phase3 s).devAddr = s.devAddr := by
  unfold phase3; (repeat' split) <;> simp [priority1, priority3, priority4]
@[simp] theorem phase3_pacingMs : (phase3 s).pacingMs = s.pacingMs := by
  unfold phase3; (repeat' split) <;> simp [priority1, priority3, priority4]
@[simp] theorem phase3_skipUnchanged : (phase3 s).skipUnchanged = s.skipUnchanged := by
  unfold phase3; (repeat' split) <;> simp [priority1, priority3, priority4]
@[simp] theorem phase3_refreshDisable : (phase3 s).refreshDisable = s.refreshDisable := by
  unfold phase3; (repeat' split) <;> simp [priority1, priority3, priority4]
@[simp] theorem phase3_replyCtr : (phase3 s).replyCtr = s.replyCtr := by
  unfold phase3; (repeat' split) <;> simp [priority1, priority3, priority4]
@[simp] theorem phase3_retry : (phase3 s).retry = s.retry := by
  unfold phase3; (repeat' split) <;> simp [priority1, priority3, priority4]
@[simp] theorem phase3_tCoarse : (phase3 s).tCoarse = s.tCoarse := by
  unfold phase3; (repeat' split) <;> simp [priority1, priority3, priority4]
@[simp] theorem phase3_ppState : (phase3 s).ppState = s.ppState := by
  unfold phase3; (repeat' split) <;> simp [priority1, priority3, priority4]
@[simp] theorem phase3_ppSnap : (phase3 s).ppSnap = s.ppSnap := by
  unfold phase3; (repeat' split) <;> simp [priority1, priority3, priority4]
@[simp] theorem phase3_ppNr : (phase3 s).ppNr = s.ppNr := by
  unfold phase3; (repeat' split) <;> simp [priority1, priority3, priority4]
@[simp] theorem phase3_rxq : (phase3 s).rxq = s.rxq := by
  unfold phase3; (repeat' split) <;> simp [priority1, priority3, priority4]
@[simp] theorem phase3_now : (phase3 s).now = s.now := by
  unfold phase3; (repeat' split) <;> simp [priority1, priority3, priority4]
@[simp] theorem phase3_agenda : (phase3 s).agenda = s.agenda := by
  unfold phase3; (repeat' split) <;> simp [priority1, priority3, priority4]
@[simp] theorem phase3_result : (phase3 s).result = s.result := by
  unfold phase3; (repeat' split) <;> simp [priority1, priority3, priority4]
@[simp] theorem phase3_freeCount : (phase3 s).freeCount = s.freeCount := by
  unfold phase3; (repeat' split) <;> simp [priority1, priority3, priority4]

/-! `advance` -/

@[simp] theorem advance_params (now : Time) : (advance now s).params = s.params := by
  simp [advance, phase0]
@[simp] theorem advance_wqMem (now : Time) : (advance now s).wqMem = s.wqMem := by
  simp [advance, phase0]
@[simp] theorem advance_devAddr (now : Time) : (advance now s).devAddr = s.devAddr := by
  simp [advance, phase0]
@[simp] theorem advance_pacingMs (now : Time) : (advance now s).pacingMs = s.pacingMs := by
  simp [advance, phase0]
@[simp] theorem advance_skipUnchanged (now : Time) : (advance now s).skipUnchanged = s.skipUnchanged := by
  simp [advance, phase0]
@[simp] theorem advance_refreshDisable (now : Time) : (advance now s).refreshDisable = s.refreshDisable := by
  simp [advance, phase0]
@[simp] theorem advance_ppState (now : Time) : (advance now s).ppState = s.ppState := by
  simp [advance, phase0]
@[simp] theorem advance_ppSnap (now : Time) : (advance now s).ppSnap = s.ppSnap := by
  simp [advance, phase0]
@[simp] theorem advance_ppNr (now : Time) : (advance now s).ppNr = s.ppNr := by
  simp [advance, phase0]
@[simp] theorem advance_agenda (now : Time) : (advance now s).agenda = s.agenda := by
  simp [advance, phase0]
@[simp] theorem advance_result (now : Time) : (advance now s).result = s.result := by
  simp [advance, phase0]
@[simp] theorem advance_freeCount (now : Time) : (advance now s).freeCount = s.freeCount := by
  simp [advance, phase0]

@[simp] theorem advance_now (now : Time) : (advance now s).now = now := by simp [advance, phase0]

end Sys2Proof.Machine
end

