-- ==== Sys2Proof/Laws/Ops.lean ====
section
/-! SUPPORT. What each shared operation can do, said once: the operand functions, routing, the phases, and one step.
Later proofs cite these instead of unfolding the operations. -/

namespace Sys2Proof.Machine

open Sys2Proof

/-! ### Operand functions -/

@[simp] theorem overlayRegs_length (values regs : List Word) : (overlayRegs values regs).length = regs.length := by
  simp [overlayRegs]

theorem overlayRegs_getElem? (values regs : List Word) {k : Nat} (hk : k < regs.length) :
    (overlayRegs values regs)[k]? = some (values.getD k regs[k]) := by
  simp [overlayRegs, hk]

theorem overlayBank_getElem (values : List Word) (bank : Bank) (k : Fin 14) :
    (overlayBank values bank)[k] = values.getD k.val bank[k] := by
  simp [overlayBank]

@[simp] theorem setReg_length (index value : Word) (regs : List Word) :
    (setReg index value regs).length = regs.length := by
  unfold setReg; split <;> simp

theorem cacheGet_of_lt {s : State} {idx : Byte} (h : idx.toNat < s.hreg.length) :
    cacheGet s idx = s.hreg[idx.toNat] := by
  simp [cacheGet, State.nRegs, h]

theorem cacheGet_of_le {s : State} {idx : Byte} (h : s.hreg.length ≤ idx.toNat) : cacheGet s idx = 0#16 := by
  simp [cacheGet, State.nRegs, Nat.not_lt.mpr h]

@[simp] theorem bankLegal_iff (nr : BankNr) : bankLegal nr = true ↔ nr.toNat ≤ 9 := by
  simp [bankLegal, Config.nBanks]; omega

/-! ### The receive buffer -/

theorem appendRx_length_le {cap : Nat} {buf : List Byte} (b : Byte) (h : buf.length ≤ cap) :
    (appendRx cap buf b).length ≤ cap := by
  unfold appendRx; split
  · rw [List.length_append, List.length_singleton]; omega
  · exact h

/-- A drain never overfills the buffer. -/
theorem foldl_appendRx_length_le (cap : Nat) (bytes : List Byte) :
    ∀ buf : List Byte, buf.length ≤ cap → (bytes.foldl (appendRx cap) buf).length ≤ cap := by
  induction bytes with
  | nil => intro buf h; simpa using h
  | cons b bytes ih => intro buf h; exact ih _ (appendRx_length_le b h)

/-- A drain of nothing keeps the buffer. -/
theorem drain_of_empty {s : State} (h : s.rxq = []) : drain s = s := by
  cases s; simp only at h; subst h; rfl

/-! ### Routing and classification -/

/-- What classifying and routing a buffer can do: nothing, or drop a malformed buffer, or accept one of the four
frames. -/
theorem classify_cases (s : State) :
    classify s = s ∨ classify s = routeMalformed s ∨
    (∃ addr code, classify s = routeException addr code s) ∨
    (∃ addr values, classify s = routeReadReply addr values s) ∨
    (∃ addr index value, classify s = routeWriteSingle addr index value s) ∨
    (∃ addr, classify s = routeWriteMultiple addr s) := by
  unfold classify
  split
  · cases decodeReply s.maxPayload s.rxbuf with
    | exception addr orig code lo hi => exact .inr (.inr (.inl ⟨addr, code, rfl⟩))
    | readReply addr values lo hi => exact .inr (.inr (.inr (.inl ⟨addr, values, rfl⟩)))
    | writeSingleConfirm addr index value lo hi => exact .inr (.inr (.inr (.inr (.inl ⟨addr, index, value, rfl⟩))))
    | writeMultipleConfirm addr start count lo hi => exact .inr (.inr (.inr (.inr (.inr ⟨addr, rfl⟩))))
    | malformed why => exact .inr (.inl rfl)
    | incomplete => exact .inl rfl
  · exact .inl rfl

/-- A buffer below MIN_FRAME is not classified (R143). -/
theorem classify_of_short {s : State} (h : s.rxbuf.length < 5) : classify s = s := by
  unfold classify; rw [if_neg]; simp only [Config.minFrame, State.rxlen]; omega

/-- An incomplete buffer is left as it is (R115). -/
theorem classify_of_incomplete {s : State} (h : decodeReply s.maxPayload s.rxbuf = .incomplete) : classify s = s := by
  unfold classify; rw [h]; exact ite_self s

/-- Only a buffer of at least MIN_FRAME bytes is an exception reply (R100, R101). -/
theorem decodeReply_exception_length {maxPayload : Nat} {b : List Byte} {addr : Byte} {orig : BitVec 7}
    {code lo hi : Byte} (h : decodeReply maxPayload b = .exception addr orig code lo hi) : 5 ≤ b.length := by
  match b with
  | _ :: _ :: _ :: _ :: _ :: _ => simp
  | [] | [_] | [_, _] | [_, _, _] | [_, _, _, _] => cases h

/-- A buffer that is an exception reply is routed as one (R113, R143). -/
theorem classify_of_exception {s : State} {addr : Byte} {orig : BitVec 7} {code lo hi : Byte}
    (h : decodeReply s.maxPayload s.rxbuf = .exception addr orig code lo hi) :
    classify s = routeException addr code s := by
  unfold classify
  rw [if_pos (show Config.minFrame ≤ s.rxlen from decodeReply_exception_length h), h]
  rfl

/-- Classification keeps the exception record, or the buffer is an exception reply and is routed as one (R19, R113). -/
theorem classify_records_or_not (s : State) :
    ((classify s).excValid = s.excValid ∧ (classify s).excCode = s.excCode) ∨
    ∃ addr orig code lo hi, decodeReply s.maxPayload s.rxbuf = .exception addr orig code lo hi ∧
      classify s = routeException addr code s := by
  cases h : decodeReply s.maxPayload s.rxbuf with
  | exception addr orig code lo hi => exact .inr ⟨addr, orig, code, lo, hi, rfl, classify_of_exception h⟩
  | _ =>
    left; unfold classify; split
    · rw [h]; simp [route, routeReadReply, routeWriteSingle, routeWriteMultiple, routeMalformed, raise]
      try (split <;> simp)
    · exact ⟨rfl, rfl⟩

/-- The register file keeps its size under classification. -/
@[simp] theorem classify_hreg_length (s : State) : (classify s).hreg.length = s.hreg.length := by
  rcases classify_cases s with h | h | ⟨a, c, h⟩ | ⟨a, v, h⟩ | ⟨a, i, v, h⟩ | ⟨a, h⟩ <;> rw [h]
  · simp [routeMalformed]
  · simp [routeException]
  · unfold routeReadReply; split <;> simp
  · simp [routeWriteSingle]
  · simp [routeWriteMultiple]

/-- The register file keeps its size in the receive phase. -/
@[simp] theorem phase1_hreg_length (s : State) : (phase1 s).hreg.length = s.hreg.length := classify_hreg_length _

/-- Classification accepts no frame and leaves the transaction alone, or accepts one: AWAIT cleared, the counter
advanced, the buffer discarded (R109, R114, R115). -/
theorem classify_accepts_or_not (s : State) :
    ((classify s).await = s.await ∧ (classify s).replyCtr = s.replyCtr ∧ (classify s).redirect = s.redirect ∧
      (classify s).hreg = s.hreg ∧ (classify s).pbuf = s.pbuf ∧ (classify s).rclass = s.rclass ∧
      (classify s).excValid = s.excValid ∧ (classify s).excCode = s.excCode ∧
      ((classify s).rxbuf = s.rxbuf ∨ (classify s).rxbuf = [])) ∨
    ((classify s).await = false ∧ (classify s).replyCtr = s.replyCtr + 1 ∧ (classify s).rxbuf = [] ∧
      ((classify s).redirect = s.redirect ∨ (classify s).redirect = false)) := by
  rcases classify_cases s with h | h | ⟨a, c, h⟩ | ⟨a, v, h⟩ | ⟨a, i, v, h⟩ | ⟨a, h⟩ <;> rw [h]
  · simp
  · left; simp [routeMalformed, raise]
  · right; simp [routeException, raise]
  · right; unfold routeReadReply; split <;> simp
  · right; simp [routeWriteSingle]
  · right; simp [routeWriteMultiple]

/-! ### The phases -/

/-- Phase 2 with nothing outstanding: the budget is full and at most the coarse stamp moves (R144, R145). -/
theorem phase2_idle {s : State} (h : s.await = false) :
    phase2 s = { s with
      retry := s.params.timeoutTicks
      tCoarse := if coarseDue s then s.now else s.tCoarse } := by
  have hr : reload s = { s with retry := s.params.timeoutTicks } := by simp [reload, h]
  have hd : coarseDue { s with retry := s.params.timeoutTicks } = coarseDue s := rfl
  rw [phase2, hr]
  unfold coarse
  rw [hd]
  split
  · simp [h]; rfl
  · rfl

/-- Phase 2 with a request outstanding: nothing, or one coarse tick, or the timeout (R145, R146). -/
theorem phase2_busy {s : State} (h : s.await = true) :
    phase2 s =
      if coarseDue s then
        if s.retry - 1 = 0#3 then timeout { s with tCoarse := s.now, retry := s.retry - 1 }
        else { s with tCoarse := s.now, retry := s.retry - 1 }
      else s := by
  have hr : reload s = s := by simp [reload, h]
  rw [phase2, hr]
  unfold coarse
  split
  · rfl
  · rfl

/-- Phase 2 declares no timeout, or declares one with a request outstanding. -/
theorem phase2_times_out_or_not (s : State) :
    ((phase2 s).await = s.await ∧ (phase2 s).replyCtr = s.replyCtr ∧ (phase2 s).redirect = s.redirect ∧
      (phase2 s).rxbuf = s.rxbuf) ∨
    (s.await = true ∧ (phase2 s).await = false ∧ (phase2 s).replyCtr = s.replyCtr + 1 ∧
      (phase2 s).redirect = false ∧ (phase2 s).rxbuf = [] ∧ (phase2 s).retry = s.params.timeoutTicks) := by
  cases h : s.await with
  | false => left; rw [phase2_idle h]; simp [h]
  | true =>
    rw [phase2_busy h]
    split
    · split
      · right; simp
      · left; simp [h]
    · left; simp [h]

/-- What phase 3 can do: nothing; or at an open gate transmit the prepared frame, discard or transmit one queued write,
transmit the preset read, or transmit the refresh (R147 to R151). -/
theorem phase3_cases (s : State) :
    phase3 s = s ∨
    (gateOpen s = true ∧
      ((0 < s.txbuf.length ∧ phase3 s = transmit s.txbuf (takeSlot s)) ∨
       (∃ e t, pop s = some (e, t) ∧ skipWrite t e = true ∧ phase3 s = t) ∨
       (∃ e t, pop s = some (e, t) ∧ skipWrite t e = false ∧
          phase3 s = transmit (encWriteSingle t e.idx e.val) t) ∨
       (s.preqPending = true ∧
          phase3 s = transmit (encRead s (bankAddr s.params s.ppNr) (BitVec.ofNat 16 Config.bankWords)) (takePreset s)) ∨
       phase3 s = transmit (encRead s 0#16 (BitVec.ofNat 16 s.nRegs)) s)) := by
  unfold phase3
  split
  · next hg =>
    split
    · next ht => exact .inr ⟨hg, .inl ⟨ht, rfl⟩⟩
    · split
      · next hq =>
        cases hp : pop s with
        | none => exact absurd (pop_none hp) (by omega)
        | some et =>
          obtain ⟨e, t⟩ := et
          have h2 : priority2 s = if skipWrite t e then t else transmit (encWriteSingle t e.idx e.val) t := by
            unfold priority2; rw [hp]
          cases hs : skipWrite t e with
          | true => right; exact ⟨hg, .inr (.inl ⟨e, t, rfl, hs, by simp [h2, hs]⟩)⟩
          | false => right; exact ⟨hg, .inr (.inr (.inl ⟨e, t, rfl, hs, by simp [h2, hs]⟩))⟩
      · split
        · next hp => exact .inr ⟨hg, .inr (.inr (.inr (.inl ⟨hp, rfl⟩)))⟩
        · split
          · exact .inl rfl
          · exact .inr ⟨hg, .inr (.inr (.inr (.inr rfl)))⟩
  · exact .inl rfl

/-- An open gate: nothing in flight and the pacing interval passed (R147). -/
theorem gateOpen_iff (s : State) : gateOpen s = true ↔ s.await = false ∧ s.pacingMs ≤ s.now - s.tLastTx := by
  unfold gateOpen since; simp

/-- A coarse tick is due (R145). -/
theorem coarseDue_iff (s : State) : coarseDue s = true ↔ Config.coarseMs ≤ s.now - s.tCoarse := by
  unfold coarseDue since; exact decide_eq_true_iff

/-- Phase 3 transmits nothing, or one frame at an open gate. -/
theorem phase3_transmits_or_not (s : State) :
    ((phase3 s).txlog = s.txlog ∧ (phase3 s).await = s.await ∧ (phase3 s).tLastTx = s.tLastTx ∧
      (phase3 s).redirect = s.redirect ∧ (phase3 s).rxbuf = s.rxbuf ∧ (phase3 s).txbuf = s.txbuf ∧
      (phase3 s).preqPending = s.preqPending) ∨
    (gateOpen s = true ∧ (phase3 s).await = true ∧ (phase3 s).tLastTx = s.now ∧ (phase3 s).rxbuf = [] ∧
      ∃ f, (phase3 s).txlog = s.txlog ++ [(s.now, f)]) := by
  rcases phase3_cases s with h | ⟨hg, ⟨_, h⟩ | ⟨e, t, hp, _, h⟩ | ⟨e, t, hp, _, h⟩ | ⟨_, h⟩ | h⟩
  · left; simp [h]
  · right; simp [h, hg]
  · left; obtain ⟨-, -, rfl⟩ := pop_some hp; rw [h]; simp
  · right; obtain ⟨-, -, rfl⟩ := pop_some hp; rw [h]; simp [hg]
  · right; simp [h, hg]
  · right; simp [h, hg]

/-! ### One step -/

/-- Every instruction's meaning answers a next state. -/
theorem exec_next (i : Instr) (s : State) : ∃ t, exec i s = .next t := by
  cases i <;> simp only [exec, execRdreq, execWrsreq, execWrmreq, execExcrpl, execRdrpl, execWrscnf, execWrmcnf,
    execRdc, execEnq, execPrq, execPpl, execPps, execRct, execFrs, execSda, execSpi, execSfl, execAdv, execRst]
  case enq idx val => cases push ⟨idx, val⟩ s <;> exact ⟨_, rfl⟩
  case prq nr => split <;> exact ⟨_, rfl⟩
  case ppl => split <;> exact ⟨_, rfl⟩
  case pps nr w => split <;> exact ⟨_, rfl⟩
  all_goals exact ⟨_, rfl⟩

/-- What one step can do: nothing is pending; the transport delivers bytes; a reserved command is ignored; a decoded
command is executed. -/
theorem step_cases {s t : State} (h : step s = .next t) :
    (s.agenda = [] ∧ t = s) ∨
    (∃ bytes rest, s.agenda = .receive bytes :: rest ∧ t = deliver bytes (takeAction rest s)) ∨
    (∃ bits rest op, s.agenda = .command bits :: rest ∧ decodeCommand bits = .rejected (.reservedCode op) ∧
      t = ignoreCommand (takeAction rest s)) ∨
    (∃ bits rest i, s.agenda = .command bits :: rest ∧ decodeCommand bits = .instr i ∧
      exec i (takeAction rest s) = .next t) := by
  unfold step fetchAndRun at h
  split at h
  · next ha => cases h; exact .inl ⟨ha, rfl⟩
  · next a rest ha =>
    cases a with
    | receive bytes => cases h; exact .inr (.inl ⟨bytes, rest, ha, rfl⟩)
    | command bits =>
      simp only [runAction, runDecoded] at h
      split at h
      · next i hd => exact .inr (.inr (.inr ⟨bits, rest, i, ha, hd, h⟩))
      · next op hd => cases h; exact .inr (.inr (.inl ⟨bits, rest, op, ha, hd, rfl⟩))
      · cases h
      · cases h
      · cases h

end Sys2Proof.Machine
end

