-- ==== Sys2Proof/Laws/PerInstr.lean ====
section
/-! SUPPORT. Statements made per instruction: the size of every encoding is the one the tables of rules R61 and R72
give it. -/

namespace Sys2Proof.Laws

open Sys2Proof

/-- The size in bits of an image: eight for each byte of a frame. -/
def imageBits : Image → Nat
  | .command bits => bits.length
  | .toSlave f => 8 * f.length
  | .toEngine f => 8 * f.length

/-- The size in bits that the tables give the instruction (R61: frames in bytes; R72: commands in bits). -/
def tableBits : Instr → Nat
  | .rdreq _ _ _ => 8 * 8
  | .wrsreq _ _ _ => 8 * 8
  | .wrmreq _ _ words => 8 * (9 + 2 * words.length)
  | .excrpl _ _ _ _ _ => 8 * 5
  | .rdrpl _ values _ _ => 8 * (5 + 2 * values.length)
  | .wrscnf _ _ _ _ _ => 8 * 8
  | .wrmcnf _ _ _ _ _ => 8 * 8
  | .rdc _ => 12
  | .enq _ _ => 28
  | .prq _ => 8
  | .ppl => 4
  | .pps _ _ => 232
  | .rct => 4
  | .frs _ => 36
  | .sda _ => 12
  | .spi _ => 36
  | .sfl _ _ => 6
  | .adv _ => 36
  | .rst _ => 36

/-- A well-formed instruction's encoding has the size of its row. -/
def EncodedSize.Statement (i : Instr) : Prop := i.wellFormed = true → imageBits (encode i) = tableBits i

theorem EncodedSize.rdreq (addr : Byte) (start count : Word) : EncodedSize.Statement (.rdreq addr start count) :=
  fun _ => rfl

theorem EncodedSize.wrsreq (addr idx : Byte) (val : Word) : EncodedSize.Statement (.wrsreq addr idx val) :=
  fun _ => rfl

theorem EncodedSize.wrmreq (addr : Byte) (start : Word) (words : List Word) :
    EncodedSize.Statement (.wrmreq addr start words) := by
  intro _
  simp [imageBits, encode, crcAppend, wrmreqBody, tableBits]
  omega

theorem EncodedSize.excrpl (addr : Byte) (orig : BitVec 7) (code crcLo crcHi : Byte) :
    EncodedSize.Statement (.excrpl addr orig code crcLo crcHi) := fun _ => rfl

theorem EncodedSize.rdrpl (addr : Byte) (values : List Word) (crcLo crcHi : Byte) :
    EncodedSize.Statement (.rdrpl addr values crcLo crcHi) := by
  intro _
  simp [imageBits, encode, rdrplFrame, tableBits]
  omega

theorem EncodedSize.wrscnf (addr : Byte) (idx val : Word) (crcLo crcHi : Byte) :
    EncodedSize.Statement (.wrscnf addr idx val crcLo crcHi) := fun _ => rfl

theorem EncodedSize.wrmcnf (addr : Byte) (start count : Word) (crcLo crcHi : Byte) :
    EncodedSize.Statement (.wrmcnf addr start count crcLo crcHi) := fun _ => rfl

theorem EncodedSize.rdc (idx : Byte) : EncodedSize.Statement (.rdc idx) := fun _ => rfl

theorem EncodedSize.enq (idx : Byte) (val : Word) : EncodedSize.Statement (.enq idx val) := fun _ => rfl

theorem EncodedSize.prq (nr : BankNr) : EncodedSize.Statement (.prq nr) := fun _ => rfl

theorem EncodedSize.ppl : EncodedSize.Statement .ppl := fun _ => rfl

theorem EncodedSize.pps (nr : BankNr) (w : Bank) : EncodedSize.Statement (.pps nr w) := by
  intro _
  simp [imageBits, encode, commandBits, bitsOfBank_length, tableBits]

theorem EncodedSize.rct : EncodedSize.Statement .rct := fun _ => rfl

theorem EncodedSize.frs (x : Count) : EncodedSize.Statement (.frs x) := fun _ => rfl

theorem EncodedSize.sda (addr : Byte) : EncodedSize.Statement (.sda addr) := fun _ => rfl

theorem EncodedSize.spi (ms : Time) : EncodedSize.Statement (.spi ms) := fun _ => rfl

theorem EncodedSize.sfl (skip norefresh : Bool) : EncodedSize.Statement (.sfl skip norefresh) := fun _ => rfl

theorem EncodedSize.adv (now : Time) : EncodedSize.Statement (.adv now) := fun _ => rfl

theorem EncodedSize.rst (now : Time) : EncodedSize.Statement (.rst now) := fun _ => rfl

end Sys2Proof.Laws
end

