-- ==== Sys2Proof/Laws/Steps.lean ====
section
/-! SUPPORT. Inversion of the command decoder, of the host operations and of the tick: what a decoded command can be,
what executing one can do to the state, and what one tick can do to the transaction. -/

namespace Sys2Proof.Machine

open Sys2Proof

/-! ### The command decoder gives host operations -/

theorem finish_instr {i j : Instr} {rest : List Bool} (h : finish i rest = .instr j) : j = i := by
  unfold finish at h; split at h <;> cases h; rfl

theorem operand1_instr {n : Nat} {bits : List Bool} {f : BitVec n → Instr} {j : Instr}
    (h : operand1 n bits f = .instr j) : ∃ x, j = f x := by
  unfold operand1 at h; split at h
  · exact ⟨_, finish_instr h⟩
  · cases h

theorem operand2_instr {n m : Nat} {bits : List Bool} {f : BitVec n → BitVec m → Instr} {j : Instr}
    (h : operand2 n m bits f = .instr j) : ∃ x y, j = f x y := by
  unfold operand2 at h; split at h
  · obtain ⟨y, hy⟩ := operand1_instr h; exact ⟨_, y, hy⟩
  · cases h

theorem operandBank_instr {bits : List Bool} {j : Instr} (h : operandBank bits = .instr j) :
    ∃ nr w, j = .pps nr w := by
  unfold operandBank at h
  split at h
  · split at h
    · exact ⟨_, _, finish_instr h⟩
    · cases h
  · cases h

/-- Only a host operation is decoded from the command port. -/
theorem decodeCommand_isCommand {bits : List Bool} {i : Instr} (h : decodeCommand bits = .instr i) :
    i.isCommand = true := by
  unfold decodeCommand at h
  cases hf : takeField 4 bits with
  | none => rw [hf] at h; cases h
  | some p =>
    obtain ⟨op, rest⟩ := p
    rw [hf] at h
    dsimp only at h
    by_cases h1 : op = 0x1#4
    · rw [if_pos h1] at h; obtain ⟨x, rfl⟩ := operand1_instr h; rfl
    rw [if_neg h1] at h
    by_cases h2 : op = 0x2#4
    · rw [if_pos h2] at h; obtain ⟨x, y, rfl⟩ := operand2_instr h; rfl
    rw [if_neg h2] at h
    by_cases h3 : op = 0x3#4
    · rw [if_pos h3] at h; obtain ⟨x, rfl⟩ := operand1_instr h; rfl
    rw [if_neg h3] at h
    by_cases h4 : op = 0x4#4
    · rw [if_pos h4] at h; rw [finish_instr h]; rfl
    rw [if_neg h4] at h
    by_cases h5 : op = 0x5#4
    · rw [if_pos h5] at h; obtain ⟨x, y, rfl⟩ := operandBank_instr h; rfl
    rw [if_neg h5] at h
    by_cases h6 : op = 0x6#4
    · rw [if_pos h6] at h; rw [finish_instr h]; rfl
    rw [if_neg h6] at h
    by_cases h7 : op = 0x7#4
    · rw [if_pos h7] at h; obtain ⟨x, rfl⟩ := operand1_instr h; rfl
    rw [if_neg h7] at h
    by_cases h8 : op = 0x8#4
    · rw [if_pos h8] at h; obtain ⟨x, rfl⟩ := operand1_instr h; rfl
    rw [if_neg h8] at h
    by_cases h9 : op = 0x9#4
    · rw [if_pos h9] at h; obtain ⟨x, rfl⟩ := operand1_instr h; rfl
    rw [if_neg h9] at h
    by_cases h10 : op = 0xA#4
    · rw [if_pos h10] at h; obtain ⟨x, y, rfl⟩ := operand2_instr h; rfl
    rw [if_neg h10] at h
    by_cases h11 : op = 0xB#4
    · rw [if_pos h11] at h; obtain ⟨x, rfl⟩ := operand1_instr h; rfl
    rw [if_neg h11] at h
    by_cases h12 : op = 0xF#4
    · rw [if_pos h12] at h; obtain ⟨x, rfl⟩ := operand1_instr h; rfl
    rw [if_neg h12] at h
    cases h

/-! ### What a host operation can do -/

/-- What executing a host operation can do: a tick; a reset; or one of the small updates; or, for an
operation that is neither tick nor reset, only return a value. -/
inductive CommandEffect (s : State) : Instr → State → Prop
  | tick (now : Time) : CommandEffect s (.adv now) (setResult .none (advance now s))
  | reset (now : Time) : CommandEffect s (.rst now) (resetEngine now s)
  | enqueue (idx : Byte) (val : Word) (u : State) (h : push ⟨idx, val⟩ s = some u) :
      CommandEffect s (.enq idx val) (setResult (.ok true) u)
  | post (nr : BankNr) (hn : nr.toNat ≤ 9) (hs : s.ppState = .send) :
      CommandEffect s (.prq nr) (setResult (.ok true) (postPreset nr s))
  | complete (hs : s.ppState = .wait) (hc : s.replyCtr ≠ s.ppSnap) :
      CommandEffect s .ppl (setResult (.preset true s.ppNr s.pbuf) (finishPreset s))
  | prepared (nr : BankNr) (w : Bank) (hn : nr.toNat ≤ 9) :
      CommandEffect s (.pps nr w)
        (setResult (.ok true) (prepare (encWriteMultiple s (bankAddr s.params nr) w.toList) s))
  | address (addr : Byte) : CommandEffect s (.sda addr) (setResult .none { s with devAddr := addr })
  | pacing (ms : Time) : CommandEffect s (.spi ms) (setResult .none { s with pacingMs := ms })
  | features (skip norefresh : Bool) : CommandEffect s (.sfl skip norefresh)
      (setResult .none { s with skipUnchanged := skip, refreshDisable := norefresh })
  | answer (i : Instr) (r : Result) (ha : ∀ now, i ≠ .adv now) (hr : ∀ now, i ≠ .rst now) :
      CommandEffect s i (setResult r s)

/-- Every execution of a host operation has one of the effects of `CommandEffect`. -/
theorem exec_command_effect {i : Instr} {s t : State} (hc : i.isCommand = true) (h : exec i s = .next t) :
    CommandEffect s i t := by
  cases i with
  | rdc idx => cases h; exact .answer _ _ (by simp) (by simp)
  | enq idx val =>
    simp only [exec, execEnq] at h
    split at h <;> cases h
    · next u hu => exact .enqueue idx val u hu
    · exact .answer _ _ (by simp) (by simp)
  | prq nr =>
    simp only [exec, execPrq] at h
    split at h <;> cases h
    · exact .answer _ _ (by simp) (by simp)
    · next hn =>
      rw [not_or, ne_eq, Decidable.not_not, Bool.not_eq_false] at hn
      exact .post nr ((bankLegal_iff nr).1 hn.2) hn.1
  | ppl =>
    simp only [exec, execPpl] at h
    split at h <;> cases h
    · next hn =>
      simp only [presetReady, counterMoved, Bool.and_eq_true, decide_eq_true_eq, bne_iff_ne] at hn
      exact .complete hn.1 hn.2
    · exact .answer _ _ (by simp) (by simp)
  | pps nr w =>
    simp only [exec, execPps] at h
    split at h <;> cases h
    · next hn => exact .prepared nr w ((bankLegal_iff nr).1 hn)
    · exact .answer _ _ (by simp) (by simp)
  | rct => cases h; exact .answer _ _ (by simp) (by simp)
  | frs x => cases h; exact .answer _ _ (by simp) (by simp)
  | sda addr => cases h; exact .address addr
  | spi ms => cases h; exact .pacing ms
  | sfl skip norefresh => cases h; exact .features skip norefresh
  | adv now => cases h; exact .tick now
  | rst now => cases h; exact .reset now
  | _ => cases hc

/-- What one step can do: touch only the pending actions, RXQ and the last result; or run a decoded host operation. -/
theorem step_effect {s t : State} (h : step s = .next t) :
    (∃ rest q r, t = { s with agenda := rest, rxq := q, result := r }) ∨
    (∃ i rest, NextIs s i ∧ CommandEffect (takeAction rest s) i t) := by
  rcases step_cases h with ⟨-, ht⟩ | ⟨b, r, -, ht⟩ | ⟨b, r, o, -, -, ht⟩ | ⟨b, r, i, h1, h2, h3⟩
  · exact .inl ⟨s.agenda, s.rxq, s.result, ht⟩
  · exact .inl ⟨r, s.rxq ++ b, s.result, ht⟩
  · exact .inl ⟨r, s.rxq, .none, ht⟩
  · exact .inr ⟨i, r, ⟨b, r, h1, h2⟩, exec_command_effect (decodeCommand_isCommand h2) h3⟩

/-! ### What one tick can do -/

/-- The state on which a tick's receive phase works: the time set, the per-tick flags cleared (R31, R141). -/
def tickStart (now : Time) (s : State) : State := { s with now := now, rclass := .none, rxOurs := false }

theorem advance_eq (now : Time) (s : State) : advance now s = phase3 (phase2 (phase1 (tickStart now s))) := rfl

/-- The receive phase accepts no frame and leaves transaction, caches and records alone, or accepts one. -/
theorem phase1_accepts_or_not (s : State) :
    ((phase1 s).await = s.await ∧ (phase1 s).replyCtr = s.replyCtr ∧ (phase1 s).redirect = s.redirect ∧
      (phase1 s).hreg = s.hreg ∧ (phase1 s).pbuf = s.pbuf ∧ (phase1 s).rclass = s.rclass ∧
      (phase1 s).excValid = s.excValid ∧ (phase1 s).excCode = s.excCode) ∨
    ((phase1 s).await = false ∧ (phase1 s).replyCtr = s.replyCtr + 1 ∧
      ((phase1 s).redirect = s.redirect ∨ (phase1 s).redirect = false) ∧
      ((phase1 s).hreg = s.hreg ∨ (phase1 s).rclass ≠ .none) ∧
      ((phase1 s).pbuf = s.pbuf ∨ s.redirect = true ∧ (phase1 s).rclass = .data) ∧
      ((phase1 s).excValid = s.excValid ∨ (phase1 s).excValid = true) ∧
      ((phase1 s).excCode = s.excCode ∨ (phase1 s).excValid = true ∧ (phase1 s).rclass = s.rclass)) := by
  unfold phase1
  rcases classify_cases (drain s) with h | h | ⟨a, c, h⟩ | ⟨a, v, h⟩ | ⟨a, i, v, h⟩ | ⟨a, h⟩ <;> rw [h]
  · simp
  · left; simp [routeMalformed, raise]
  · right; simp [routeException, raise]
  · right; unfold routeReadReply; split <;> simp_all
  · right; simp [routeWriteSingle]
  · right; simp [routeWriteMultiple]

/-- With no bytes waiting and an unfinished frame, or none, in the buffer, the receive phase does nothing (R115, R143). -/
theorem phase1_of_waiting {s : State} (hq : s.rxq = [])
    (hb : s.rxbuf.length < 5 ∨ decodeReply s.maxPayload s.rxbuf = .incomplete) : phase1 s = s := by
  unfold phase1
  rw [drain_of_empty hq]
  exact hb.elim classify_of_short classify_of_incomplete

/-- A tick ends with the exception record that its receive phase left. -/
theorem advance_exception_record (now : Time) (s : State) :
    (advance now s).excValid = (phase1 (tickStart now s)).excValid ∧
      (advance now s).excCode = (phase1 (tickStart now s)).excCode ∧
      (advance now s).rclass = (phase1 (tickStart now s)).rclass := by
  simp [advance_eq]

/-- A tick's first two phases leave the counter and AWAIT, or advance the counter by one and leave nothing outstanding. -/
theorem tick_counts (now : Time) (s : State) :
    ((advance now s).replyCtr = s.replyCtr ∧ (phase2 (phase1 (tickStart now s))).await = s.await) ∨
    ((advance now s).replyCtr = s.replyCtr + 1 ∧ (phase2 (phase1 (tickStart now s))).await = false) := by
  rw [advance_eq, phase3_replyCtr]
  rcases phase1_accepts_or_not (tickStart now s) with h | h
  · rcases phase2_times_out_or_not (phase1 (tickStart now s)) with g | g
    · left; rw [g.2.1, h.2.1, g.1, h.1]; exact ⟨rfl, rfl⟩
    · right; rw [g.2.2.1, h.2.1]; exact ⟨rfl, g.2.1⟩
  · rcases phase2_times_out_or_not (phase1 (tickStart now s)) with g | g
    · right; rw [g.2.1, h.2.1, g.1, h.1]; exact ⟨rfl, rfl⟩
    · rw [h.1] at g; cases g.1

end Sys2Proof.Machine
end

