-- ==== Sys2Proof/Tests/Slice0.lean ====
section
/-! SUPPORT. Tests on fixed values, each expected result taken from spec/ (the vectors V-... of spec/95_test_vectors.md
and the worked examples of the rules, computed there), and for every statement with hypotheses a named witness that
meets them. -/

namespace Sys2Proof.Tests

set_option maxRecDepth 100000

open Sys2Proof Sys2Proof.Machine

/-! ### The machine of the vectors -/

/-- The parameters of spec/95_test_vectors.md: PRESET_BASE 0x0050, PRESET_STRIDE 0x0010, TIMEOUT_TICKS 4,
DEV_ADDR_RESET 0x01. -/
def params : Config.Params := ⟨0x0050#16, 0x0010#16, 0, 0x01#8⟩

/-- The vectors' machine (N_REGS = 31) after `RST(0)`; the unspecified queue slots hold zeros so that it can be
evaluated. -/
def machine : State := { State.afterReset 31 params 0 with wqMem := Vector.replicate 16 ⟨0, 0⟩ }

/-- The next state of an instruction; the same state where there is none. -/
def run (i : Instr) (s : State) : State :=
  match exec i s with
  | .next t => t
  | .fault _ => s
  | .refused _ => s

/-- One receive phase on a buffer (section 2.3 of the vectors). -/
def received (b : List Byte) (s : State) : State := classify { s with rxbuf := b }

/-- A queue of one write. -/
def oneWrite (idx : Byte) (val : Word) : State :=
  { machine with wqMem := Vector.replicate 16 ⟨idx, val⟩, wqSize := 1 }

/-- The bank of V-E-16. -/
def bank : Bank := #v[0x01F4, 0x0064, 0x03E8, 0x1770, 0x07D0, 0x04B0, 0, 0, 0, 0, 0, 0, 0x0050, 0x0001]

/-- A request is in flight since time 50, the coarse stamp at 60 (V-S-6, V-S-7). -/
def waiting (retry : BitVec 3) : State :=
  { machine with await := true, retry := retry, tLastTx := 50, tCoarse := 60 }

/-- The bits of a host command, ready as the next action. -/
def commanded (i : Instr) (s : State) : State := { s with agenda := [.command (encode i).bits] }

/-! ### Ill-formed instructions are refused -/

theorem test_wrmreq_of_128_words_is_ill_formed :
    Instr.wellFormed (.wrmreq 1 0 (List.replicate 128 0)) = false := by decide

theorem test_rdrpl_of_128_words_is_ill_formed :
    Instr.wellFormed (.rdrpl 1 (List.replicate 128 0) 0 0) = false := by decide

theorem test_frames_of_127_words_are_well_formed :
    Instr.wellFormed (.wrmreq 1 0 (List.replicate 127 0)) = true ∧
      Instr.wellFormed (.rdrpl 1 (List.replicate 127 0) 0 0) = true := by decide

theorem test_oversized_payload_does_not_fit :
    Instr.fitsPayload 62 (.rdrpl 1 (List.replicate 32 0) 0 0) = false ∧
      Instr.fitsPayload 62 (.rdrpl 1 (List.replicate 31 0) 0 0) = true := by decide

theorem test_the_three_sides_are_disjoint :
    Instr.isCommand (.adv 0) = true ∧ Instr.isRequest (.adv 0) = false ∧ Instr.isReply (.adv 0) = false ∧
      Instr.isRequest (.rdreq 1 0 1) = true ∧ Instr.isReply (.rdreq 1 0 1) = false ∧
      Instr.isReply (.wrscnf 1 0 0 0 0) = true ∧ Instr.isCommand (.wrscnf 1 0 0 0 0) = false := by decide

/-! ### The CRC unit (V-CRC) -/

theorem test_crc_of_empty : crc16 [] = 0xFFFF#16 := by decide
theorem test_crc_of_01 : crc16 [0x01] = 0x807E#16 := by decide
theorem test_crc_of_ff_ff : crc16 [0xFF, 0xFF] = 0x0000#16 := by decide
theorem test_crc_of_request : crc16 [0x01, 0x03, 0x00, 0x00, 0x00, 0x0A] = 0xCDC5#16 := by decide
theorem test_crc_table_entries :
    crcTable 0x00 = 0x0000#16 ∧ crcTable 0x01 = 0xC0C1#16 ∧ crcTable 0xFF = 0x4040#16 := by decide
theorem test_crc_validator :
    crcCheck [0x01, 0x03, 0x00, 0x00, 0x00, 0x0A, 0xC5, 0xCD] = true ∧
      crcCheck [0x01, 0x03, 0x00, 0x00, 0x00, 0x0A, 0xC5, 0xCC] = false := by decide
theorem test_crc_published_check_value :
    crc16 [0x31, 0x32, 0x33, 0x34, 0x35, 0x36, 0x37, 0x38, 0x39] = 0x4B37#16 := by decide

/-! ### Decoding of words written out from the formats -/

theorem test_decode_rdreq :
    decodeRequest [0x01, 0x03, 0x00, 0x70, 0x00, 0x0E, 0xC5, 0xD5] = .instr (.rdreq 0x01 0x0070 14) := by decide

theorem test_decode_wrsreq :
    decodeRequest [0x01, 0x06, 0x00, 0x12, 0x00, 0x01, 0xE8, 0x0F] = .instr (.wrsreq 0x01 0x12 0x0001) := by decide

theorem test_decode_wrmreq :
    decodeRequestBody [0x01, 0x10, 0x00, 0x70, 0x00, 0x02, 0x04, 0x01, 0xF4, 0x00, 0x64]
      = .instr (.wrmreq 0x01 0x0070 [0x01F4, 0x0064]) := by decide

theorem test_decode_excrpl :
    (decodeReply 62 [0x01, 0x86, 0x03, 0x02, 0x61]).decoded = .instr (.excrpl 0x01 0x06 0x03 0x02 0x61) := by decide

theorem test_decode_rdrpl :
    (decodeReply 62 [0x01, 0x03, 0x02, 0xAB, 0xCD, 0x06, 0xE1]).decoded
      = .instr (.rdrpl 0x01 [0xABCD] 0x06 0xE1) := by decide

theorem test_decode_wrscnf :
    (decodeReply 62 [0x01, 0x06, 0x01, 0x00, 0x12, 0x34, 0x85, 0x41]).decoded
      = .instr (.wrscnf 0x01 256 0x1234 0x85 0x41) := by decide

theorem test_decode_wrmcnf :
    (decodeReply 62 [0x01, 0x10, 0x00, 0x70, 0x00, 0x0E, 0x40, 0x16]).decoded
      = .instr (.wrmcnf 0x01 0x0070 14 0x40 0x16) := by decide

theorem test_decode_rdc :
    decodeCommand [false, false, false, true, false, false, false, true, false, false, true, false]
      = .instr (.rdc 0x12) := by decide

theorem test_decode_enq :
    decodeCommand ([false, false, true, false, true, false, false, false, false, false, false, true] ++
      List.replicate 15 false ++ [true]) = .instr (.enq 0x81 0x0001) := by decide

theorem test_decode_prq :
    decodeCommand [false, false, true, true, true, false, false, true] = .instr (.prq 9) := by decide

theorem test_decode_ppl : decodeCommand [false, true, false, false] = .instr .ppl := by decide

theorem test_decode_pps :
    decodeCommand ([false, true, false, true, false, false, true, false] ++ List.replicate 15 false ++ [true] ++
      List.replicate 208 false) = .instr (.pps 2 ((Vector.replicate 14 0).set 0 1)) := by decide

theorem test_decode_rct : decodeCommand [false, true, true, false] = .instr .rct := by decide

theorem test_decode_frs :
    decodeCommand ([false, true, true, true, true] ++ List.replicate 31 false) = .instr (.frs 0x80000000) := by decide

theorem test_decode_sda :
    decodeCommand [true, false, false, false, true, true, true, true, false, true, true, true]
      = .instr (.sda 0xF7) := by decide

theorem test_decode_spi :
    decodeCommand ([true, false, false, true] ++ List.replicate 26 false ++ [true, true, false, false, true, false])
      = .instr (.spi 50) := by decide

theorem test_decode_sfl :
    decodeCommand [true, false, true, false, false, true] = .instr (.sfl false true) := by decide

theorem test_decode_adv :
    decodeCommand ([true, false, true, true] ++ List.replicate 31 false ++ [true]) = .instr (.adv 1) := by decide

theorem test_decode_rst :
    decodeCommand ([true, true, true, true] ++ List.replicate 31 false ++ [true]) = .instr (.rst 1) := by decide

theorem test_reserved_code_rejected :
    decodeCommand [true, true, false, true] = .rejected (.reservedCode 0xD) := by decide

theorem test_malformed_buffers_rejected :
    decodeReply 62 [0x01, 0x2B, 0x00, 0x00, 0x00] = .malformed .unknownFunction ∧
      decodeReply 62 [0x01, 0x03, 0x40, 0x00, 0x00] = .malformed .oversized ∧
      decodeReply 62 [0x01, 0x03, 0x05, 0x00, 0x00] = .malformed .odd ∧
      decodeReply 62 [0x01, 0x03, 0x3E, 0x00, 0x00] = .incomplete ∧
      decodeReply 62 [0x01, 0x10, 0x00, 0x70, 0x00] = .incomplete := by decide

theorem test_bad_requests_rejected :
    decodeRequest [0x01, 0x03, 0x00, 0x00, 0x00, 0x0A, 0xC5, 0xCC] = .rejected .requestCrc ∧
      decodeRequestBody [0x01, 0x06, 0x01, 0x00, 0x00, 0x00] = .rejected .highIndexByte ∧
      decodeRequestBody [0x01, 0x10, 0x00, 0x00, 0x00, 0x01, 0x03] = .rejected .requestByteCount ∧
      decodeRequestBody [0x01, 0x04, 0x00, 0x00, 0x00, 0x01] = .rejected .unknownRequest := by decide

/-! ### The encoder (V-E) -/

theorem test_encode_refresh :
    encRead machine 0 31 = [0x01, 0x03, 0x00, 0x00, 0x00, 0x1F, 0x04, 0x02] := by decide

theorem test_encode_write_single_corner :
    encWriteSingle machine 0xFF 0xFFFF = [0x01, 0x06, 0x00, 0xFF, 0xFF, 0xFF, 0xB8, 0x4A] := by decide

theorem test_encode_write_single_other_address :
    encWriteSingle { machine with devAddr := 0xF7 } 0x12 1 = [0xF7, 0x06, 0x00, 0x12, 0x00, 0x01, 0xFC, 0x99] := by
  decide

theorem test_encode_write_multiple :
    encWriteMultiple machine 0x0070 bank.toList =
      [0x01, 0x10, 0x00, 0x70, 0x00, 0x0E, 0x1C, 0x01, 0xF4, 0x00, 0x64, 0x03, 0xE8, 0x17, 0x70, 0x07, 0xD0, 0x04,
        0xB0, 0, 0, 0, 0, 0, 0, 0, 0, 0, 0, 0, 0, 0x00, 0x50, 0x00, 0x01, 0xD6, 0xEF] := by decide

/-! ### Opcode-table words -/

theorem test_table_word_of_a_command :
    decodeTableWord 8 0x4 = some .ppl ∧ decodeTableWord 16 0x121 = some (.rdc 0x21) ∧
      decodeTableWord 8 0x93 = some (.prq 9) ∧ decodeTableWord 8 0x1A = some (.sfl false true) := by decide

theorem test_table_word_of_a_reply :
    decodeTableWord 64 0x0180 = some (.excrpl 0x01 0 0 0 0) ∧
      decodeTableWord 64 0x0106 = some (.wrscnf 0x01 0 0 0 0) ∧
      decodeTableWord 64 0x0110 = some (.wrmcnf 0x01 0 0 0 0) ∧
      decodeTableWord 64 0x0103 = some (.rdrpl 0x01 [] 0 0) := by decide

theorem test_fetch_word_runs_a_command :
    step (machine.withFetchWord 16 0x121) = exec (.rdc 0x21) machine := by rfl

/-! ### One step of every instruction -/

theorem test_rdreq_transmits :
    (run (.rdreq 0x01 0x0070 14) machine).txlog = [(0, [0x01, 0x03, 0x00, 0x70, 0x00, 0x0E, 0xC5, 0xD5])] ∧
      (run (.rdreq 0x01 0x0070 14) machine).await = true := by decide

theorem test_wrsreq_transmits :
    (run (.wrsreq 0x01 0x00 0x04B0) machine).txlog = [(0, [0x01, 0x06, 0x00, 0x00, 0x04, 0xB0, 0x8A, 0xBE])] := by
  decide

theorem test_wrmreq_transmits :
    (run (.wrmreq 0x01 0x0050 (List.replicate 14 0)) machine).txlog =
      [(0, [0x01, 0x10, 0x00, 0x50, 0x00, 0x0E, 0x1C] ++ List.replicate 28 0 ++ [0x32, 0xE5])] := by decide

/-- V-D-18, V-D-19. -/
theorem test_excrpl_records :
    (run (.excrpl 0x01 0x06 0x03 0x02 0x61) (waiting 4)).excValid = true ∧
      (run (.excrpl 0x01 0x06 0x03 0x02 0x61) (waiting 4)).excCode = 0x03 ∧
      (run (.excrpl 0x01 0x06 0x03 0x02 0x61) (waiting 4)).rclass = .none ∧
      (run (.excrpl 0x01 0x06 0x03 0x02 0x61) (waiting 4)).replyCtr = 1 ∧
      (run (.excrpl 0x01 0x06 0x03 0x02 0x61) (waiting 4)).await = false := by decide

/-- V-D-6. -/
theorem test_rdrpl_updates_the_cache :
    (received [0x01, 0x03, 0x04, 0x04, 0xB0, 0x01, 0xF4, 0xFA, 0xF3] machine).hreg.take 3 = [0x04B0, 0x01F4, 0] ∧
      (received [0x01, 0x03, 0x04, 0x04, 0xB0, 0x01, 0xF4, 0xFA, 0xF3] machine).rclass = .data := by decide

/-- V-D-11: under REDIRECT the words land in PBUF, the cache is unchanged. -/
theorem test_rdrpl_redirected :
    (run (.rdrpl 0x01 bank.toList 0xAB 0x6F) { machine with redirect := true }).pbuf = bank ∧
      (run (.rdrpl 0x01 bank.toList 0xAB 0x6F) { machine with redirect := true }).hreg = machine.hreg ∧
      (run (.rdrpl 0x01 bank.toList 0xAB 0x6F) { machine with redirect := true }).redirect = false := by decide

/-- V-D-2: a foreign address is merged, only the tag differs. -/
theorem test_wrscnf_from_a_foreign_address :
    (received [0x02, 0x06, 0x00, 0x01, 0x12, 0x34, 0xD5, 0x4E] machine).hreg.take 2 = [0, 0x1234] ∧
      (received [0x02, 0x06, 0x00, 0x01, 0x12, 0x34, 0xD5, 0x4E] machine).rxOurs = false := by decide

/-- V-D-4, V-D-5: an index outside the array writes nothing. -/
theorem test_wrscnf_outside_the_array :
    (run (.wrscnf 0x01 31 0x1234 0xB5 0x7B) machine).hreg = machine.hreg ∧
      (run (.wrscnf 0x01 256 0x1234 0x85 0x41) machine).hreg = machine.hreg ∧
      (run (.wrscnf 0x01 31 0x1234 0xB5 0x7B) machine).replyCtr = 1 := by decide

/-- V-D-16. -/
theorem test_wrmcnf_confirms :
    (received [0x01, 0x10, 0x00, 0x70, 0x00, 0x0E, 0x40, 0x16] (waiting 4)).rclass = .confirm ∧
      (received [0x01, 0x10, 0x00, 0x70, 0x00, 0x0E, 0x40, 0x16] (waiting 4)).await = false ∧
      (received [0x01, 0x10, 0x00, 0x70, 0x00, 0x0E, 0x40, 0x16] (waiting 4)).hreg = machine.hreg := by decide

/-- V-D-24: a malformed buffer sets the flag and leaves AWAIT. -/
theorem test_malformed_sets_the_flag :
    (received [0x01, 0x2B, 0x00, 0x00, 0x00] (waiting 4)).errflag = true ∧
      (received [0x01, 0x2B, 0x00, 0x00, 0x00] (waiting 4)).await = true ∧
      (received [0x01, 0x2B, 0x00, 0x00, 0x00] (waiting 4)).rxbuf = [] := by decide

/-- V-Q-1. -/
theorem test_rdc_inside_and_outside :
    (run (.rdc 30) { machine with hreg := List.replicate 31 7 }).result = .val 7 ∧
      (run (.rdc 31) { machine with hreg := List.replicate 31 7 }).result = .val 0 ∧
      (run (.rdc 255) { machine with hreg := List.replicate 31 7 }).result = .val 0 := by decide

/-- V-Q-3, V-Q-7. -/
theorem test_enq_appends :
    queueList (run (.enq 0x12 1) (oneWrite 0x12 1)) = [⟨0x12, 1⟩, ⟨0x12, 1⟩] ∧
      (run (.enq 0x12 1) (oneWrite 0x12 1)).hreg = machine.hreg := by decide

/-- V-Q-2. -/
theorem test_enq_on_a_full_queue :
    (run (.enq 16 16) { machine with wqSize := 16 }).result = .ok false ∧
      (run (.enq 16 16) { machine with wqSize := 16 }).wqSize = 16 := by decide

/-- V-Q-6: the slot after the last wraps. -/
theorem test_push_wraps :
    (push ⟨3, 7⟩ { machine with wqHead := 15, wqSize := 1 }).map (fun t => (t.wqMem[0], t.wqSize)) =
      some (⟨3, 7⟩, 2) := by decide

/-- V-Q-4, V-Q-5. -/
theorem test_pop_is_fifo :
    pop machine = none ∧ (pop (oneWrite 1 0x01F4)).map (fun p => (p.1, p.2.wqSize)) = some (⟨1, 0x01F4⟩, 0) := by
  decide

/-- V-P-1. -/
theorem test_prq_posts :
    (run (.prq 2) { machine with replyCtr := 1 }).ppNr = 2 ∧ (run (.prq 2) { machine with replyCtr := 1 }).ppSnap = 1 ∧
      (run (.prq 2) { machine with replyCtr := 1 }).preqPending = true ∧
      (run (.prq 2) { machine with replyCtr := 1 }).ppState = .wait := by decide

/-- V-P-2, V-P-3. -/
theorem test_prq_refused :
    (run (.prq 3) { machine with ppState := .wait }).result = .ok false ∧
      (run (.prq 10) machine).result = .ok false ∧ (run (.prq 10) machine).ppState = .send := by decide

/-- V-P-6. -/
theorem test_ppl_completes :
    (run .ppl { machine with ppState := .wait, ppSnap := 1, ppNr := 2, replyCtr := 2, pbuf := bank }).result
      = .preset true 2 bank := by decide

/-- V-P-4, V-P-5, V-P-7. -/
theorem test_ppl_counter_inequality :
    (run .ppl { machine with replyCtr := 1 }).result = .preset false 0 (Vector.replicate 14 0) ∧
      (run .ppl { machine with ppState := .wait, ppSnap := 1, replyCtr := 1 }).ppState = .wait ∧
      (run .ppl { machine with ppState := .wait, ppSnap := 0xFFFFFFFF }).ppState = .send := by decide

/-- V-P-10. -/
theorem test_pps_replaces_the_prepared_frame :
    (run (.pps 9 (Vector.replicate 14 0xFFFF)) { machine with txbuf := List.replicate 37 0 }).txbuf =
      [0x01, 0x10, 0x00, 0xE0, 0x00, 0x0E, 0x1C] ++ List.replicate 28 0xFF ++ [0x9E, 0x5A] := by decide

/-- V-P-11. -/
theorem test_pps_refused :
    (run (.pps 10 bank) machine).result = .ok false ∧ (run (.pps 10 bank) machine).txbuf = [] := by decide

/-- V-P-12. -/
theorem test_bank_address_wraps : bankAddr ⟨0xFFF8, 0x0010, 0, 0x01⟩ 1 = 0x0008 := by decide

/-- V-S-11, and a moved counter. -/
theorem test_rct_and_frs :
    (run .rct { machine with replyCtr := 5 }).result = .ctr 5 ∧ (run (.frs 0) machine).result = .fresh false ∧
      (run (.frs 0xFFFFFFFF) machine).result = .fresh true := by decide

theorem test_configuration :
    (run (.sda 0x02) machine).devAddr = 0x02 ∧ (run (.spi 0) machine).pacingMs = 0 ∧
      (run (.sfl true false) machine).skipUnchanged = true ∧ (run (.sfl true false) machine).refreshDisable = false ∧
      (run (.sfl false true) machine).refreshDisable = true := by decide

/-- V-S-1: nothing leaves at 49, the refresh leaves at 50. -/
theorem test_adv_sends_the_refresh :
    (run (.adv 49) machine).txlog = [] ∧ (run (.adv 49) machine).tCoarse = 49 ∧
      (run (.adv 50) machine).txlog = [(50, [0x01, 0x03, 0x00, 0x00, 0x00, 0x1F, 0x04, 0x02])] ∧
      (run (.adv 50) machine).tLastTx = 50 := by decide

/-- P2: the last coarse tick of the budget abandons the request. -/
theorem test_adv_times_out :
    (run (.adv 90) (waiting 1)).await = false ∧ (run (.adv 90) (waiting 1)).replyCtr = 1 ∧
      (run (.adv 90) (waiting 1)).retry = 4 ∧ (run (.adv 90) (waiting 1)).tCoarse = 90 := by decide

/-- V-S-6, V-S-7. -/
theorem test_phase2_coarse_ticks :
    (run (.adv 65) (waiting 2)).retry = 2 ∧ (run (.adv 200) (waiting 3)).retry = 2 ∧
      (run (.adv 200) (waiting 3)).tCoarse = 200 := by decide

/-- V-S-4: a reply in the same tick wins over the timeout. -/
theorem test_phase1_reply_wins_over_timeout :
    (run (.adv 90) { waiting 1 with rxq := [0x01, 0x06, 0x00, 0x05, 0x00, 0x09, 0x59, 0xCD] }).replyCtr = 1 ∧
      (run (.adv 90) { waiting 1 with rxq := [0x01, 0x06, 0x00, 0x05, 0x00, 0x09, 0x59, 0xCD] }).hreg.getD 5 0 = 9 ∧
      (run (.adv 90) { waiting 1 with rxq := [0x01, 0x06, 0x00, 0x05, 0x00, 0x09, 0x59, 0xCD] }).retry = 4 := by
  decide

/-- V-S-5: an unchanged write is discarded, a changed one leaves (V-E-14). -/
theorem test_priority2_skips_unchanged :
    (run (.adv 50) { oneWrite 200 0 with skipUnchanged := true }).txlog = [] ∧
      (run (.adv 50) { oneWrite 200 0 with skipUnchanged := true }).wqSize = 0 ∧
      (run (.adv 51) { oneWrite 200 1 with skipUnchanged := true }).txlog =
        [(51, [0x01, 0x06, 0x00, 0xC8, 0x00, 0x01, 0xC9, 0xF4])] := by decide

/-- P3 step 10: the preset read sets REDIRECT when it leaves. -/
theorem test_priority3_sends_the_preset_read :
    (run (.adv 100) { machine with preqPending := true, ppNr := 2, ppState := .wait }).txlog =
        [(100, [0x01, 0x03, 0x00, 0x70, 0x00, 0x0E, 0xC5, 0xD5])] ∧
      (run (.adv 100) { machine with preqPending := true, ppNr := 2, ppState := .wait }).redirect = true := by decide

/-- V-D-27: bytes beyond the receive buffer are dropped. -/
theorem test_drain_drops_the_excess :
    (drain { machine with rxq := List.replicate 73 0xAA }).rxbuf.length = 67 ∧
      (drain { machine with rxq := List.replicate 73 0xAA }).rxq = [] := by decide

theorem test_rst_resets :
    (run (.rst 7) { waiting 1 with hreg := List.replicate 31 9, devAddr := 5 }).hreg = List.replicate 31 0 ∧
      (run (.rst 7) { waiting 1 with hreg := List.replicate 31 9, devAddr := 5 }).devAddr = 0x01 ∧
      (run (.rst 7) { waiting 1 with hreg := List.replicate 31 9, devAddr := 5 }).tLastTx = 7 ∧
      (run (.rst 7) { waiting 1 with hreg := List.replicate 31 9, devAddr := 5 }).retry = 4 := by decide

/-- A reply frame's table word: the very next step receives and routes the frame. -/
theorem test_fetch_word_runs_a_reply :
    (match step (({ waiting 4 with now := 60 } : State).withFetchWord 64 0x0012341F00000106) with
      | .next t => (t.rclass, t.await, t.replyCtr)
      | _ => (.none, true, 0)) = (.confirm, false, 1) := by decide

theorem test_exception_names :
    exceptionName 3 = some .illegalDataValue ∧ exceptionName 9 = none ∧
      exceptionName 11 = some .gatewayTargetFailedToRespond := by decide

/-! ### Witnesses: for every statement with hypotheses, a concrete state and operands that meet all of them. A clause
with a range has its witness at the boundary. -/

/-- The bytes of frame V-D-11: a read reply with the words of `bank`. -/
def bankReply : List Byte := (encode (.rdrpl 0x01 bank.toList 0xAB 0x6F)).bytes

/-- The state of program P3 after its step 11: the preset read is in flight. -/
def presetRead : State :=
  { machine with await := true, redirect := true, ppState := .wait, ppNr := 2, tLastTx := 100, tCoarse := 100, now := 100
                 txlog := [(100, encRead machine 0x0070 14)] }

theorem witness_StepRunsDecodedCommand :
    (commanded (.rdc 0x12) machine).agenda = .command (encode (.rdc 0x12)).bits :: [] ∧
      decodeCommand (encode (.rdc 0x12)).bits = .instr (.rdc 0x12) := by decide

theorem witness_ReservedCommandChangesNothing :
    ({ machine with agenda := [.command (bitsOf 0x0#4 ++ [])] } : State).agenda = .command (bitsOf 0x0#4 ++ []) :: [] ∧
      ({ machine with agenda := [.command (bitsOf 0xE#4 ++ [true])] } : State).agenda
        = .command (bitsOf 0xE#4 ++ [true]) :: [] := by decide

theorem witness_TransportAndIdleSteps :
    ({ machine with agenda := [.receive [0x01]] } : State).agenda = .receive [0x01] :: [] ∧
      machine.agenda = [] := by decide

theorem witness_StepRefusesOnlyNonCommands_short :
    step { machine with agenda := [.command [false, false, false]] } = .refused (.notACommand .shortCommand) := rfl

theorem witness_StepRefusesOnlyNonCommands_long :
    step { machine with agenda := [.command [false, true, false, false, true]] }
      = .refused (.notACommand .longCommand) := rfl

theorem witness_CommandEncodingRoundTrip :
    Instr.isCommand (.frs 0xFFFFFFFF) = true ∧ decodeCommand [false, true, true, false] = .instr .rct := by decide

theorem witness_RequestEncodingRoundTrip :
    Instr.isRequest (.wrmreq 0xFF 0xFFFF (List.replicate 127 0xFFFF)) = true ∧
      Instr.wellFormed (.wrmreq 0xFF 0xFFFF (List.replicate 127 0xFFFF)) = true ∧
      decodeRequest [0x01, 0x06, 0x00, 0x12, 0x00, 0x01, 0xE8, 0x0F] = .instr (.wrsreq 0x01 0x12 0x0001) := by decide

theorem witness_ReplyDecodesFromItsEncoding :
    Instr.isReply (.rdrpl 0x01 (List.replicate 31 7) 0 0) = true ∧
      Instr.wellFormed (.rdrpl 0x01 (List.replicate 31 7) 0 0) = true ∧
      Instr.fitsPayload 62 (.rdrpl 0x01 (List.replicate 31 7) 0 0) = true ∧
      encode (.rdrpl 0x01 (List.replicate 31 7) 0 0) = .toEngine (rdrplFrame 0x01 (List.replicate 31 7) 0 0) := by decide

theorem witness_AcceptedBufferBeginsWithItsFrame :
    (decodeReply 62 [0x01, 0x86, 0x03, 0x02, 0x61, 0xAA]).decoded = .instr (.excrpl 0x01 0x06 0x03 0x02 0x61) := by
  decide

theorem witness_FunctionByteSelectsTheVariant :
    (0x80#8).msb = true ∧ (0x7F#8).msb = false ∧ (0x03#8).msb = false ∧ (0x06#8).msb = false ∧
      (0x10#8).msb = false := by decide

theorem witness_IncompleteExactlyBelowNeed :
    5 ≤ ([0x01, 0x03, 0x3E, 0x00, 0x00] : List Byte).length ∧
      ({ machine with rxbuf := List.replicate 67 0x03 } : State).rxbuf.length =
        ({ machine with rxbuf := List.replicate 67 0x03 } : State).rxbufCap := by decide

theorem witness_ValidatorIsZeroResidue : 2 ≤ ([0xFF, 0xFF] : List Byte).length ∧ crcCheck [0xFF, 0xFF] = true := by
  decide

theorem witness_TransmitOpportunity_closed :
    (waiting 4).await = true ∧
      ({ machine with now := 49 } : State).now - ({ machine with now := 49 } : State).tLastTx
        < ({ machine with now := 49 } : State).pacingMs := by decide

theorem witness_TransmitOpportunity_open :
    let s : State := { machine with now := 50 }
    s.await = false ∧ s.pacingMs ≤ s.now - s.tLastTx ∧ s.txbuf = [] ∧ s.wqSize.val = 0 ∧ s.preqPending = false ∧
      s.refreshDisable = false := by decide

theorem witness_TransmitOpportunity_disabled :
    let s : State := { machine with now := 50, refreshDisable := true }
    s.await = false ∧ s.pacingMs ≤ s.now - s.tLastTx ∧ s.txbuf = [] ∧ s.wqSize.val = 0 ∧ s.preqPending = false ∧
      s.refreshDisable = true := by decide

theorem witness_TransmitOpportunity_prepared :
    let s : State := { machine with now := 50, txbuf := List.replicate 37 0 }
    s.await = false ∧ s.pacingMs ≤ s.now - s.tLastTx ∧ s.txbuf ≠ [] := by decide

theorem witness_TransmitOpportunity_write :
    let s : State := { oneWrite 1 0 with now := 50, skipUnchanged := true }
    let u : State := { oneWrite 1 1 with now := 50, skipUnchanged := true }
    s.await = false ∧ s.pacingMs ≤ s.now - s.tLastTx ∧ s.txbuf = [] ∧ 0 < s.wqSize.val ∧
      (s.skipUnchanged = true ∧ cacheGet s (queueAt s 0).idx = (queueAt s 0).val) ∧
      u.await = false ∧ u.pacingMs ≤ u.now - u.tLastTx ∧ u.txbuf = [] ∧ 0 < u.wqSize.val ∧
      ¬(u.skipUnchanged = true ∧ cacheGet u (queueAt u 0).idx = (queueAt u 0).val) := by decide

theorem witness_TransmitOpportunity_preset :
    let s : State := { machine with now := 50, preqPending := true }
    s.await = false ∧ s.pacingMs ≤ s.now - s.tLastTx ∧ s.txbuf = [] ∧ s.wqSize.val = 0 ∧ s.preqPending = true := by
  decide

theorem witness_TransmissionExecutesItsRequestFrame :
    let s : State := { oneWrite 1 0 with now := 50 }
    let t : State := run (.pps 9 bank) { machine with now := 50 }
    (s.await = false ∧ s.pacingMs ≤ s.now - s.tLastTx ∧ s.txbuf = [] ∧ (pop s).map Prod.fst = some ⟨1, 0⟩ ∧
        s.skipUnchanged = false) ∧
      (9#4).toNat ≤ 9 ∧ t.await = false ∧ t.pacingMs ≤ t.now - t.tLastTx := by decide

theorem witness_ReadReplyLandsByRedirect :
    2 * (List.replicate 31 (7 : Word)).length ≤ machine.maxPayload ∧ machine.redirect = false ∧
      2 * (List.replicate 31 (7 : Word)).length ≤ presetRead.maxPayload ∧ presetRead.redirect = true := by decide

theorem witness_OversizedReadReplyIsDropped :
    machine.maxPayload < 2 * (List.replicate 32 (7 : Word)).length := by decide

theorem witness_WriteSingleConfirmUpdatesCache :
    (30#16).toNat < machine.hreg.length ∧ machine.hreg.length ≤ (31#16).toNat := by decide

theorem witness_DrainKeepsArrivalOrder :
    ({ machine with rxbuf := List.replicate 67 0 } : State).rxbuf.length ≤ machine.rxbufCap := by decide

theorem witness_ReceivePhaseRunsTheFrame :
    let s : State := { machine with rxbuf := bankReply.take 10, rxq := bankReply.drop 10 ++ [0xAA] }
    Instr.isReply (.rdrpl 0x01 bank.toList 0xAB 0x6F) = true ∧
      Instr.wellFormed (.rdrpl 0x01 bank.toList 0xAB 0x6F) = true ∧
      Instr.fitsPayload s.maxPayload (.rdrpl 0x01 bank.toList 0xAB 0x6F) = true ∧
      encode (.rdrpl 0x01 bank.toList 0xAB 0x6F) = .toEngine bankReply ∧
      s.rxbuf.length ≤ s.rxbufCap ∧ s.rxbuf ++ s.rxq = bankReply ++ [0xAA] := by decide

theorem witness_StepRunsReceivedFrame :
    let s : State := commanded (.adv 110) { presetRead with rxbuf := bankReply.take 10, rxq := bankReply.drop 10 }
    Instr.isReply (.rdrpl 0x01 bank.toList 0xAB 0x6F) = true ∧
      Instr.wellFormed (.rdrpl 0x01 bank.toList 0xAB 0x6F) = true ∧
      Instr.fitsPayload s.maxPayload (.rdrpl 0x01 bank.toList 0xAB 0x6F) = true ∧
      encode (.rdrpl 0x01 bank.toList 0xAB 0x6F) = .toEngine bankReply ∧
      s.rxbuf.length ≤ s.rxbufCap ∧ s.rxbuf ++ s.rxq = bankReply ++ [] ∧
      s.agenda = .command (encode (.adv 110)).bits :: [] ∧
      decodeCommand (encode (.adv 110)).bits = .instr (.adv 110) := by decide

theorem witness_MalformedAndIncompleteBuffers :
    let short : State := { machine with rxbuf := [0x01, 0x83, 0x02, 0xC0] }
    let part : State := { machine with rxbuf := [0x01, 0x10, 0x00, 0x70, 0x00] }
    let bad : State := { machine with rxbuf := [0x01, 0x2B, 0x00, 0x00, 0x00] }
    short.rxbuf.length < 5 ∧
      (5 ≤ part.rxbuf.length ∧ decodeReply part.maxPayload part.rxbuf = .incomplete) ∧
      (5 ≤ bad.rxbuf.length ∧ decodeReply bad.maxPayload bad.rxbuf = .malformed .unknownFunction) := by decide

/-- V-D-1 and V-D-3: a right and a wrong CRC. -/
theorem witness_ReceivedCrcHasNoEffect :
    let b : List Byte := [0x01, 0x06, 0x00, 0x00, 0x04, 0xB0, 0x8A, 0xBE]
    let c : List Byte := [0x01, 0x06, 0x00, 0x00, 0x04, 0xB0, 0x00, 0x00]
    5 ≤ b.length ∧ 5 ≤ c.length ∧ need (b.getD 1 0) (b.getD 2 0) ≤ b.length ∧
      need (b.getD 1 0) (b.getD 2 0) ≤ c.length ∧
      b.take (need (b.getD 1 0) (b.getD 2 0) - 2) = c.take (need (b.getD 1 0) (b.getD 2 0) - 2) ∧ b ≠ c := by decide

theorem witness_CircularBufferRefinesFifo :
    (queueList { machine with wqHead := 15, wqSize := 15 }).length < 16 ∧
      (queueList { machine with wqHead := 15, wqSize := 16 }).length = 16 ∧
      queueList machine = [] ∧ queueList (oneWrite 1 2) = ⟨1, 2⟩ :: [] := by decide

theorem witness_EnqAppendsOrRefuses :
    (queueList { machine with wqSize := 15 }).length < 16 ∧ (queueList { machine with wqSize := 16 }).length = 16 := by
  decide

theorem witness_ConfirmedWriteIsReadBack :
    let s : State := { machine with rxq := [0x01, 0x06, 0x00, 0x1E, 0x12, 0x34, 0x00, 0x00] }
    (30#8).toNat < s.hreg.length ∧ s.rxbuf = [] ∧
      encode (.wrscnf 0x01 ((30#8).setWidth 16) 0x1234 0 0) = .toEngine s.rxq := by decide

theorem witness_PrqPostsOrRefuses :
    (machine.ppState = .send ∧ (9#4).toNat ≤ 9) ∧ presetRead.ppState = .wait ∧ 9 < (10#4).toNat := by decide

theorem witness_PplCompletesOnAnyCounterMove :
    (({ presetRead with replyCtr := 1 } : State).ppState = .wait ∧
        ({ presetRead with replyCtr := 1 } : State).replyCtr ≠ presetRead.ppSnap) ∧
      machine.ppState = .send ∧ presetRead.replyCtr = presetRead.ppSnap := by decide

theorem witness_PpsPreparesTheFrame : (9#4).toNat ≤ 9 ∧ 9 < (10#4).toNat := by decide

theorem witness_PresetReadReturnsTheReplyWords :
    machine.ppState = .send ∧ (9#4).toNat ≤ 9 ∧ machine.await = false ∧
      machine.pacingMs ≤ (50 : Time) - machine.tLastTx ∧ machine.txbuf = [] ∧ machine.wqSize.val = 0 ∧
      machine.rxq = [] ∧ machine.rxbuf.length < 5 ∧
      encode (.rdrpl 0x01 bank.toList 0xAB 0x6F) = .toEngine bankReply := by decide

theorem witness_RetryBudgetAndTimeout :
    (machine.await = false ∧ ({ machine with now := 9 } : State).now - machine.tCoarse < 10) ∧
      (10 : Time) ≤ ({ machine with now := 10 } : State).now - machine.tCoarse ∧
      ((waiting 2).await = true ∧ ({ waiting 2 with now := 69 } : State).now - (waiting 2).tCoarse < 10) ∧
      ((10 : Time) ≤ ({ waiting 2 with now := 70 } : State).now - (waiting 2).tCoarse ∧ (waiting 2).retry ≠ 1) ∧
      (waiting 1).retry = 1 := by decide

theorem witness_SilentRequestTimesOutAfterTheBudget :
    (waiting 4).await = true ∧ (waiting 4).rxq = [] ∧ (waiting 4).rxbuf.length < 5 ∧
      ([70, 80, 90, 100] : List Time).length = (waiting 4).retry.toNat ∧ ([70, 80, 90, 100] : List Time) ≠ [] ∧
      Spaced (waiting 4).tCoarse [70, 80, 90, 100] := by
  refine ⟨rfl, rfl, by decide, by decide, by decide, by decide, by decide, by decide, by decide, trivial⟩

/-- The other side of its premise: seven of the eight bytes of a confirm have arrived. -/
theorem witness_SilentRequestTimesOutAfterTheBudget_incomplete :
    let s : State := { waiting 1 with rxbuf := [0x01, 0x10, 0x00, 0x70, 0x00, 0x0E, 0x40] }
    s.await = true ∧ s.rxq = [] ∧ decodeReply s.maxPayload s.rxbuf = .incomplete ∧
      ([70] : List Time).length = s.retry.toNat ∧ ([70] : List Time) ≠ [] ∧ Spaced s.tCoarse [70] := by
  refine ⟨rfl, rfl, by decide, by decide, by decide, by decide, trivial⟩

theorem witness_FirstFrameAfterResetIsTheRefresh :
    (50 : Time) ≤ 0x22#32 - 0xFFFFFFF0#32 ∧ 0x21#32 - 0xFFFFFFF0#32 < (50 : Time) := by decide

theorem witness_AcceptedFrameForestallsTheTimeout :
    let s : State := { waiting 1 with rxq := [0x01, 0x86, 0x03, 0x02, 0x61] }
    (phase1 { s with now := 90, rclass := .none, rxOurs := false }).await = false := by decide

/-- The invariants hold of a machine in the middle of its work, a request in flight and everything else full. -/
def busy : State :=
  { presetRead with retry := 1, wqHead := 15, wqSize := 16, txbuf := List.replicate 37 0, rxbuf := List.replicate 67 0
                    rxq := [0x01] }

theorem witness_TickWorkIsBounded : Inv busy := by decide

theorem witness_StepKeepsTheInvariants :
    Inv (commanded (.adv 110) busy) ∧
      ∃ t, step (commanded (.adv 110) busy) = .next t := ⟨by decide, _, rfl⟩

theorem witness_StepSendsOnlyRequests :
    SendsOnlyRequests (commanded (.adv 110) presetRead) ∧
      ∃ t, step (commanded (.adv 110) presetRead) = .next t := by
  refine ⟨⟨fun e he => ?_, .inl rfl⟩, _, rfl⟩
  have he : e = (100, encRead machine 0x0070 14) := by simpa [commanded, presetRead] using he
  subst he
  exact ⟨.rdreq 0x01 0x0070 14, rfl, rfl, rfl⟩

theorem witness_StepKeepsRedirectSource :
    Inv (commanded (.adv 110) presetRead) ∧ RedirectHasSource (commanded (.adv 110) presetRead) ∧
      presetRead.redirect = true ∧ ∃ t, step (commanded (.adv 110) presetRead) = .next t :=
  ⟨by decide, fun _ => ⟨100, 0x01, 2, by decide, by decide⟩, rfl, _, rfl⟩

/-- The tick at 50 of V-S-1. -/
theorem witness_SingleOutstandingAndPacing :
    ∃ t, step (commanded (.adv 50) machine) = .next t ∧ machine.await = false ∧ t.await = true ∧
      t.txlog ≠ machine.txlog := ⟨_, rfl, rfl, by decide, by decide⟩

/-- A request in flight is ended by the timeout at 90 of P2. -/
theorem witness_TransactionStateMachine :
    ∃ t, step (commanded (.adv 90) { waiting 1 with refreshDisable := true }) = .next t ∧ (waiting 1).await = true ∧
      t.await = false := ⟨_, rfl, rfl, by decide⟩

theorem witness_ReplyCounterAdvancesByOne :
    ∃ t, step (commanded (.adv 90) { waiting 1 with replyCtr := 0xFFFFFFFF }) = .next t ∧ t.replyCtr = 0 :=
  ⟨_, rfl, by decide⟩

theorem witness_CachesChangeOnlyByReplies :
    (∃ t, step (commanded (.adv 110) { machine with rxq := bankReply }) = .next t ∧ t.hreg ≠ machine.hreg) ∧
      ∃ t, step (commanded (.adv 110) { presetRead with rxq := bankReply }) = .next t ∧ t.pbuf ≠ presetRead.pbuf :=
  ⟨⟨_, rfl, by decide⟩, _, rfl, by decide⟩

theorem witness_RedirectIsSetByThePresetRead :
    ∃ t, step (commanded (.adv 100) { machine with preqPending := true, ppNr := 2, ppState := .wait }) = .next t ∧
      machine.redirect = false ∧ t.redirect = true := ⟨_, rfl, rfl, by decide⟩

theorem witness_PagerStateMachine :
    (∃ t, step (commanded (.prq 9) machine) = .next t ∧ machine.ppState = .send ∧ t.ppState = .wait) ∧
      ∃ t, step (commanded .ppl { presetRead with replyCtr := 1 }) = .next t ∧ presetRead.ppState = .wait ∧
        t.ppState = .send := ⟨⟨_, rfl, rfl, by decide⟩, _, rfl, rfl, by decide⟩

theorem witness_QueueChangesOneEntryAtATime :
    ∃ t, step (commanded (.adv 50) (oneWrite 1 2)) = .next t ∧ queueList (oneWrite 1 2) = ⟨1, 2⟩ :: queueList t :=
  ⟨_, rfl, by decide⟩

theorem witness_PreparedFrameWaitsUnchanged :
    ∃ t, step (commanded (.adv 50) { machine with txbuf := List.replicate 37 0 }) = .next t ∧ t.txbuf = [] :=
  ⟨_, rfl, by decide⟩

/-- Frame V-D-19's code 3 arrives with one byte buffered and four waiting, after an earlier exception of code 2. -/
theorem witness_ExceptionRecordIsSticky :
    let s : State := commanded (.adv 110)
      { machine with excValid := true, excCode := 2, rxbuf := [0x01], rxq := [0x86, 0x03, 0x02, 0x61] }
    ∃ t, step s = .next t ∧ s.excValid = true ∧ t.excCode ≠ s.excCode ∧ NextIs s (.adv 110) ∧
      decodeReply s.maxPayload (drain s).rxbuf = .exception 0x01 0x06 0x03 0x02 0x61 :=
  ⟨_, rfl, rfl, by decide, ⟨_, [], rfl, by decide⟩, by decide⟩

theorem witness_ConfigurationChangesOnlyByItsOperation :
    (∃ t, step (commanded (.sda 2) machine) = .next t ∧ t.devAddr ≠ machine.devAddr) ∧
      (∃ t, step (commanded (.spi 0) machine) = .next t ∧ t.pacingMs ≠ machine.pacingMs) ∧
      ∃ t, step (commanded (.sfl true true) machine) = .next t ∧ t.skipUnchanged ≠ machine.skipUnchanged :=
  ⟨⟨_, rfl, by decide⟩, ⟨_, rfl, by decide⟩, _, rfl, by decide⟩

end Sys2Proof.Tests
end

section
/-! PROOFS, family 10_state.md: what one step can do to the state, the invariants of R34, and the sticky pieces of
state. The facts about steps and ticks come first, then the statements. -/

namespace Sys2Proof.Machine

open Sys2Proof

/-! ### Facts: which action a step runs -/

/-- A step with nothing pending does nothing (R208). -/
theorem step_of_idle {s : State} (h : s.agenda = []) : step s = .next s := by
  unfold step fetchAndRun; rw [h]

/-- A step whose action is the transport's delivers the bytes (R31). -/
theorem step_of_receive {s : State} {bytes : List Byte} {rest : List Action} (h : s.agenda = .receive bytes :: rest) :
    step s = .next (deliver bytes (takeAction rest s)) := by
  unfold step fetchAndRun; rw [h]; rfl

/-- A step whose command decodes to an instruction executes it, with the action taken (R51). -/
theorem step_of_nextIs {s : State} {i : Instr} (h : NextIs s i) : ∃ rest, step s = exec i (takeAction rest s) := by
  obtain ⟨bits, rest, ha, hd⟩ := h
  refine ⟨rest, ?_⟩
  unfold step fetchAndRun; rw [ha]
  simp only [runAction, hd, runDecoded]

/-- A step whose command is ADV is a tick on the state with that action taken. -/
theorem step_of_nextIs_adv {s t : State} {now : Time} (hn : NextIs s (.adv now)) (h : step s = .next t) :
    ∃ rest, t = setResult .none (advance now (takeAction rest s)) := by
  obtain ⟨rest, hs⟩ := step_of_nextIs hn
  rw [hs] at h
  cases h
  exact ⟨rest, rfl⟩

/-! ### Facts: what only a tick or a reset changes -/

/-- Caches, buffered bytes, transaction, records and log are the same in `t` as in `s`; REDIRECT is the same or
cleared. -/
structure EngineKept (s t : State) : Prop where
  params : t.params = s.params
  hreg : t.hreg = s.hreg
  pbuf : t.pbuf = s.pbuf
  rxbuf : t.rxbuf = s.rxbuf
  await : t.await = s.await
  redirect : t.redirect = true → s.redirect = true
  rclass : t.rclass = s.rclass
  excValid : t.excValid = s.excValid
  excCode : t.excCode = s.excCode
  replyCtr : t.replyCtr = s.replyCtr
  retry : t.retry = s.retry
  tLastTx : t.tLastTx = s.tLastTx
  txlog : t.txlog = s.txlog

/-- A host operation is a tick, a reset, or keeps the engine's own state (R10: the engine works in a tick only). -/
theorem CommandEffect.tick_reset_or_kept {s t : State} {i : Instr} (h : CommandEffect s i t) :
    (∃ now, i = .adv now ∧ t = setResult .none (advance now s)) ∨
    (∃ now, i = .rst now ∧ t = resetEngine now s) ∨ EngineKept s t := by
  cases h with
  | tick now => exact .inl ⟨now, rfl, rfl⟩
  | reset now => exact .inr (.inl ⟨now, rfl, rfl⟩)
  | enqueue idx val u hu =>
    obtain ⟨_, rfl⟩ := push_some hu
    right; right; constructor <;> simp
  | _ => right; right; constructor <;> simp

/-- A step is a tick, a reset, or keeps the engine's own state. -/
theorem step_tick_reset_or_kept {s t : State} (h : step s = .next t) :
    (∃ now rest, NextIs s (.adv now) ∧ t = setResult .none (advance now (takeAction rest s))) ∨
    (∃ now rest, NextIs s (.rst now) ∧ t = resetEngine now (takeAction rest s)) ∨ EngineKept s t := by
  rcases step_effect h with ⟨rest, q, r, rfl⟩ | ⟨i, rest, hn, he⟩
  · right; right; constructor <;> simp
  · rcases he.tick_reset_or_kept with ⟨now, rfl, ht⟩ | ⟨now, rfl, ht⟩ | hk
    · exact .inl ⟨now, rest, hn, ht⟩
    · exact .inr (.inl ⟨now, rest, hn, ht⟩)
    · exact .inr (.inr ⟨hk.params, hk.hreg, hk.pbuf, hk.rxbuf, hk.await, hk.redirect, hk.rclass, hk.excValid,
        hk.excCode, hk.replyCtr, hk.retry, hk.tLastTx, hk.txlog⟩)

/-! ### Facts: the prepared frame and the reset state -/

/-- A write-multiple request is nine bytes and two for each word (R64). -/
theorem encWriteMultiple_length (s : State) (start : Word) (words : List Word) :
    (encWriteMultiple s start words).length = 9 + 2 * words.length := by
  simp [encWriteMultiple, crcAppend, wrmreqBody]; omega

/-- TIMEOUT_TICKS is 4 to 7 (R7). -/
theorem timeoutTicks_toNat (p : Config.Params) : p.timeoutTicks.toNat = 4 + p.timeoutSel.val := by
  have := p.timeoutSel.isLt
  unfold Config.Params.timeoutTicks
  rw [BitVec.toNat_ofNat, Nat.mod_eq_of_lt (by omega)]

/-- N_REGS of the reset state is 1 to 127 (R7). -/
theorem reset_hreg_length : State.reset.hreg.length = Config.nRegsSel.val + 1 := List.length_replicate

@[simp] theorem resetEngine_params (now : Time) (s : State) : (resetEngine now s).params = s.params := rfl
@[simp] theorem resetEngine_hreg_length (now : Time) (s : State) :
    (resetEngine now s).hreg.length = s.hreg.length := List.length_replicate

/-! ### Facts: what a tick does to caches, counter, redirect, slot and log -/

theorem advance_hreg (now : Time) (s : State) :
    (advance now s).hreg = (phase1 (tickStart now s)).hreg := by simp [advance_eq]

theorem advance_pbuf (now : Time) (s : State) :
    (advance now s).pbuf = (phase1 (tickStart now s)).pbuf := by simp [advance_eq]

/-- A tick keeps the size of the register file. -/
theorem advance_hreg_length (now : Time) (s : State) : (advance now s).hreg.length = s.hreg.length := by
  rw [advance_hreg, phase1_hreg_length]; rfl

/-- Phase 2 declares no timeout when nothing is outstanding (R144, R177). -/
theorem phase2_replyCtr_of_idle {s : State} (h : s.await = false) : (phase2 s).replyCtr = s.replyCtr := by
  rw [phase2_idle h]

/-- A tick whose receive phase left nothing outstanding ends with the counter that phase left (R177). -/
theorem advance_replyCtr_of_accepted {now : Time} {s : State} (h : (phase1 (tickStart now s)).await = false) :
    (advance now s).replyCtr = (phase1 (tickStart now s)).replyCtr := by
  rw [advance_eq, phase3_replyCtr, phase2_replyCtr_of_idle h]

/-- A tick leaves the caches, or accepted a frame and classified it as data or a confirm; PBUF only as data under
REDIRECT (R54, R110, R111). -/
theorem advance_caches (now : Time) (s : State) :
    ((advance now s).hreg = s.hreg ∨
      (advance now s).rclass ≠ .none ∧ (advance now s).replyCtr = s.replyCtr + 1) ∧
    ((advance now s).pbuf = s.pbuf ∨
      s.redirect = true ∧ (advance now s).rclass = .data ∧ (advance now s).replyCtr = s.replyCtr + 1) := by
  obtain ⟨-, -, hclass⟩ := advance_exception_record now s
  rw [advance_hreg, advance_pbuf, hclass]
  rcases phase1_accepts_or_not (tickStart now s) with
    ⟨-, -, -, hh, hp, -⟩ | ⟨hidle, hctr, -, hh, hp, -⟩
  · exact ⟨.inl hh, .inl hp⟩
  · have hctr' : (advance now s).replyCtr = s.replyCtr + 1 := (advance_replyCtr_of_accepted hidle).trans hctr
    exact ⟨hh.imp_right fun hc => ⟨hc, hctr'⟩, hp.imp_right fun ⟨hr, hc⟩ => ⟨hr, hc, hctr'⟩⟩

/-- The phases before transmission set no REDIRECT. -/
theorem redirect_before_phase3 {now : Time} {s : State}
    (h : (phase2 (phase1 (tickStart now s))).redirect = true) : s.redirect = true := by
  have h1 : (phase1 (tickStart now s)).redirect = true := by
    rcases phase2_times_out_or_not (phase1 (tickStart now s)) with ⟨-, -, hr, -⟩ | ⟨-, -, -, hr, -⟩
    · exact hr ▸ h
    · rw [hr] at h; cases h
  rcases phase1_accepts_or_not (tickStart now s) with ⟨-, -, hr, -⟩ | ⟨-, -, hr | hr, -⟩
  · exact hr ▸ h1
  · exact hr ▸ h1
  · rw [hr] at h1; cases h1

/-- After phase 3 REDIRECT was set before, or the posted preset read has just been transmitted (R150). -/
theorem phase3_redirect {s : State} (h : (phase3 s).redirect = true) :
    s.redirect = true ∨
    (s.preqPending = true ∧ (phase3 s).preqPending = false ∧
      (phase3 s).txlog = s.txlog ++ [(s.now, crcAppend (rdreqBody s.devAddr (bankAddr s.params s.ppNr) 14#16))]) := by
  rcases phase3_cases s with h3 | ⟨-, ⟨-, h3⟩ | ⟨e, t, hp, -, h3⟩ | ⟨e, t, hp, -, h3⟩ | ⟨hq, h3⟩ | h3⟩
  · exact .inl (h3 ▸ h)
  · rw [h3] at h; exact .inl h
  · obtain ⟨-, -, rfl⟩ := pop_some hp; rw [h3] at h; exact .inl h
  · obtain ⟨-, -, rfl⟩ := pop_some hp; rw [h3] at h; exact .inl h
  · exact .inr ⟨hq, by simp [h3], by simp [h3, encRead]⟩
  · rw [h3] at h; exact .inl h

/-- A tick that ends under REDIRECT began under it, or transmitted the posted preset read (R150). -/
theorem advance_redirect {now : Time} {s : State} (h : (advance now s).redirect = true) :
    s.redirect = true ∨
    (s.preqPending = true ∧ (advance now s).preqPending = false ∧
      (advance now s).txlog = s.txlog ++ [(now, crcAppend (rdreqBody s.devAddr (bankAddr s.params s.ppNr) 14#16))]) := by
  rw [advance_eq] at h ⊢
  refine (phase3_redirect h).imp redirect_before_phase3 fun hsent => ?_
  simpa [tickStart] using hsent

/-- A tick takes nothing out of TXLOG. -/
theorem advance_extends_txlog (now : Time) (s : State) : s.txlog <+: (advance now s).txlog := by
  have hbefore : (phase2 (phase1 (tickStart now s))).txlog = s.txlog := by simp [tickStart]
  rw [advance_eq]
  rcases phase3_transmits_or_not (phase2 (phase1 (tickStart now s))) with ⟨hl, -⟩ | ⟨-, -, -, -, f, hl⟩
  · rw [hl, hbefore]
  · rw [hl, hbefore]; exact ⟨_, rfl⟩

/-- Phase 3 leaves the transmit slot, or empties it and transmits exactly its contents (R148). -/
theorem phase3_slot (s : State) :
    (phase3 s).txbuf = s.txbuf ∨
    ((phase3 s).txbuf = [] ∧ (phase3 s).txlog = s.txlog ++ [(s.now, s.txbuf)]) := by
  rcases phase3_cases s with h3 | ⟨-, ⟨-, h3⟩ | ⟨e, t, hp, -, h3⟩ | ⟨e, t, hp, -, h3⟩ | ⟨-, h3⟩ | h3⟩ <;> rw [h3]
  · exact .inl rfl
  · exact .inr ⟨rfl, rfl⟩
  · obtain ⟨-, -, rfl⟩ := pop_some hp; exact .inl rfl
  · obtain ⟨-, -, rfl⟩ := pop_some hp; exact .inl rfl
  · exact .inl rfl
  · exact .inl rfl

/-- A tick leaves the transmit slot, or empties it and transmits exactly its contents. -/
theorem advance_slot (now : Time) (s : State) :
    (advance now s).txbuf = s.txbuf ∨
    ((advance now s).txbuf = [] ∧ (advance now s).txlog = s.txlog ++ [(now, s.txbuf)]) := by
  simpa [advance_eq, tickStart] using phase3_slot (phase2 (phase1 (tickStart now s)))

/-- Taking an action changes nothing that classifying the drained buffer reads. -/
theorem takeAction_drained_reply (rest : List Action) (s : State) :
    decodeReply (takeAction rest s).maxPayload (drain (takeAction rest s)).rxbuf =
      decodeReply s.maxPayload (drain s).rxbuf := rfl

/-- Setting the time and clearing the per-tick flags changes nothing that classifying the drained buffer reads. -/
theorem tickStart_drained_reply (now : Time) (s : State) :
    decodeReply (drain (tickStart now s)).maxPayload (drain (tickStart now s)).rxbuf =
      decodeReply s.maxPayload (drain s).rxbuf := rfl

/-- A tick on bytes, buffered and waiting, that are an exception reply records its code and accepts it (R113). -/
theorem advance_of_exception {now : Time} {s : State} {addr : Byte} {orig : BitVec 7} {code lo hi : Byte}
    (h : decodeReply s.maxPayload (drain s).rxbuf = .exception addr orig code lo hi) :
    (advance now s).excValid = true ∧ (advance now s).excCode = code ∧ (advance now s).rclass = .none ∧
      (advance now s).replyCtr = s.replyCtr + 1 := by
  have hphase1 : phase1 (tickStart now s) = routeException addr code (drain (tickStart now s)) :=
    classify_of_exception ((tickStart_drained_reply now s).trans h)
  obtain ⟨hvalid, hcode, hclass⟩ := advance_exception_record now s
  have hctr := advance_replyCtr_of_accepted (now := now) (s := s) (by rw [hphase1]; rfl)
  rw [hvalid, hcode, hclass, hctr, hphase1]
  exact ⟨rfl, rfl, rfl, rfl⟩

/-- A tick keeps the exception record, or its bytes, buffered and waiting, are an exception reply (R19, R113). -/
theorem advance_keeps_record_or_exception (now : Time) (s : State) :
    ((advance now s).excValid = s.excValid ∧ (advance now s).excCode = s.excCode) ∨
    ∃ addr orig code lo hi, decodeReply s.maxPayload (drain s).rxbuf = .exception addr orig code lo hi := by
  obtain ⟨hvalid, hcode, -⟩ := advance_exception_record now s
  rw [hvalid, hcode]
  rcases classify_records_or_not (drain (tickStart now s)) with hkept | ⟨addr, orig, code, lo, hi, hd, -⟩
  · exact .inl hkept
  · exact .inr ⟨addr, orig, code, lo, hi, tickStart_drained_reply now s ▸ hd⟩

/-! ### The invariants of R34 -/

/-- The invariants but for the full budget while nothing is outstanding: the receive phase ends a transaction and
leaves the budget to phase 2's reload (R144). -/
structure InvBeforeReload (s : State) : Prop where
  regs : 1 ≤ s.hreg.length ∧ s.hreg.length ≤ 127
  rxbuf : s.rxbuf.length ≤ s.rxbufCap
  txbuf : s.txbuf.length = 0 ∨ s.txbuf.length = 37
  retry : 1 ≤ s.retry.toNat ∧ s.retry.toNat ≤ s.params.timeoutTicks.toNat
  ppNr : s.ppNr.toNat ≤ 9
  posted : s.preqPending = true → s.ppState = .wait
  stamp : s.await = true → s.txlog.getLast?.map Prod.fst = some s.tLastTx

theorem inv_iff (s : State) :
    Inv s ↔ InvBeforeReload s ∧ (s.await = false → s.retry = s.params.timeoutTicks) :=
  ⟨fun ⟨hregs, hrx, htx, hretry, hnr, hpost, hfull, hstamp⟩ => ⟨⟨hregs, hrx, htx, hretry, hnr, hpost, hstamp⟩, hfull⟩,
   fun ⟨h, hfull⟩ => ⟨h.regs, h.rxbuf, h.txbuf, h.retry, h.ppNr, h.posted, hfull, h.stamp⟩⟩

/-- A full budget is within its bounds. -/
theorem timeoutTicks_bounds (p : Config.Params) :
    1 ≤ p.timeoutTicks.toNat ∧ p.timeoutTicks.toNat ≤ p.timeoutTicks.toNat :=
  ⟨by rw [timeoutTicks_toNat]; omega, le_rfl⟩

/-- A machine of 1 to 127 registers meets the invariants right after a reset (R36). -/
theorem afterReset_inv {n : Nat} (h : 1 ≤ n ∧ n ≤ 127) (p : Config.Params) (now : Time) :
    Inv (State.afterReset n p now) := by
  refine (inv_iff _).2 ⟨?_, fun _ => rfl⟩
  constructor
  case regs => simpa [State.afterReset] using h
  case retry => exact timeoutTicks_bounds p
  all_goals simp [State.afterReset]

/-- A reset meets the invariants: it differs from the state right after reset only in what none of them reads. -/
theorem resetEngine_keeps_inv {s : State} (now : Time) (h : Inv s) : Inv (resetEngine now s) :=
  have hreset : Inv (State.afterReset s.nRegs s.params now) := afterReset_inv (n := s.nRegs) h.1 s.params now
  have ⟨hregs, _, _, hretry, _, _, _, _⟩ := hreset
  ⟨hregs, Nat.zero_le _, .inl rfl, hretry, Nat.zero_le _, fun hf => (nomatch hf), fun _ => rfl, fun hf => (nomatch hf)⟩

/-- Classification keeps the receive buffer or empties it, and sets no AWAIT. -/
theorem classify_buffer_and_await (s : State) :
    ((classify s).rxbuf = s.rxbuf ∨ (classify s).rxbuf = []) ∧ ((classify s).await = true → s.await = true) := by
  rcases classify_accepts_or_not s with ⟨ha, -, -, -, -, -, -, -, hb⟩ | ⟨ha, -, hb, -⟩
  · exact ⟨hb, fun h => ha ▸ h⟩
  · exact ⟨.inr hb, fun h => by rw [ha] at h; cases h⟩

/-- The receive phase keeps all of the invariants but the full budget. -/
theorem phase1_keeps_invBeforeReload {s : State} (h : InvBeforeReload s) : InvBeforeReload (phase1 s) := by
  obtain ⟨hbuf, hawait⟩ := classify_buffer_and_await (drain s)
  constructor
  case rxbuf =>
    have hdrain : (drain s).rxbuf.length ≤ s.rxbufCap := foldl_appendRx_length_le _ _ _ h.rxbuf
    rw [rxbufCap_congr (phase1_hreg_length s)]
    rcases hbuf with hb | hb <;> rw [phase1, hb]
    · exact hdrain
    · exact Nat.zero_le _
  case stamp => intro ha; simpa using h.stamp (hawait ha)
  case regs => simpa using h.regs
  case txbuf => simpa using h.txbuf
  case retry => simpa using h.retry
  case ppNr => simpa using h.ppNr
  case posted => simpa using h.posted

/-- Taking one from a budget that does not reach 0 keeps it within its bounds (R145). -/
theorem retry_sub_one_bounds {r full : BitVec 3} (h : 1 ≤ r.toNat ∧ r.toNat ≤ full.toNat) (hne : r - 1 ≠ 0#3) :
    1 ≤ (r - 1).toNat ∧ (r - 1).toNat ≤ full.toNat := by
  have hpos : (r - 1).toNat ≠ 0 := fun h0 => hne (BitVec.eq_of_toNat_eq h0)
  bv_omega

/-- Phase 2 gives the invariants back their full budget and keeps the others (R144, R145, R146). -/
theorem phase2_restores_inv {s : State} (h : InvBeforeReload s) : Inv (phase2 s) := by
  cases ha : s.await with
  | false =>
    rw [phase2_idle ha]
    exact (inv_iff _).2 ⟨⟨h.regs, h.rxbuf, h.txbuf, timeoutTicks_bounds _, h.ppNr, h.posted, h.stamp⟩, fun _ => rfl⟩
  | true =>
    have hbusy : ∀ t : State, t.await = true → (t.await = false → t.retry = t.params.timeoutTicks) :=
      fun t ht hf => by rw [ht] at hf; cases hf
    rw [phase2_busy ha]
    split
    · split
      · exact (inv_iff _).2 ⟨⟨h.regs, Nat.zero_le _, h.txbuf, timeoutTicks_bounds _, h.ppNr, h.posted,
          fun hf => by cases hf⟩, fun _ => rfl⟩
      · next hne =>
        exact (inv_iff _).2 ⟨⟨h.regs, h.rxbuf, h.txbuf, retry_sub_one_bounds h.retry hne, h.ppNr, h.posted, h.stamp⟩,
          hbusy _ ha⟩
    · exact (inv_iff _).2 ⟨h, hbusy _ ha⟩

/-- Transmitting a frame keeps the invariants: the log's last time is the new stamp (R152). -/
theorem transmit_keeps_inv {s : State} (f : List Byte) (h : Inv s) : Inv (transmit f s) := by
  obtain ⟨hregs, -, htx, hretry, hnr, hpost, -, -⟩ := h
  exact ⟨hregs, Nat.zero_le _, htx, hretry, hnr, hpost, fun hf => (nomatch hf), fun _ => by simp⟩

/-- Phase 3 keeps the invariants, whichever priority it serves. -/
theorem phase3_keeps_inv {s : State} (h : Inv s) : Inv (phase3 s) := by
  have ⟨hregs, hrx, htx, hretry, hnr, hpost, hfull, hstamp⟩ := h
  rcases phase3_cases s with h3 | ⟨-, ⟨-, h3⟩ | ⟨e, t, hp, -, h3⟩ | ⟨e, t, hp, -, h3⟩ | ⟨-, h3⟩ | h3⟩ <;> rw [h3]
  · exact h
  · exact transmit_keeps_inv _ ⟨hregs, hrx, .inl rfl, hretry, hnr, hpost, hfull, hstamp⟩
  · obtain ⟨-, -, rfl⟩ := pop_some hp; exact h
  · obtain ⟨-, -, rfl⟩ := pop_some hp; exact transmit_keeps_inv _ h
  · exact transmit_keeps_inv _ ⟨hregs, hrx, htx, hretry, hnr, fun hf => (nomatch hf), hfull, hstamp⟩
  · exact transmit_keeps_inv _ h

/-- A tick keeps the invariants. -/
theorem advance_keeps_inv {s : State} (now : Time) (h : Inv s) : Inv (advance now s) := by
  have hstart : InvBeforeReload (tickStart now s) := ((inv_iff (tickStart now s)).1 h).1
  exact phase3_keeps_inv (phase2_restores_inv (phase1_keeps_invBeforeReload hstart))

/-- The invariants do not read the last result. -/
theorem inv_setResult (r : Result) (s : State) : Inv (setResult r s) ↔ Inv s := Iff.rfl

/-- Every host operation keeps the invariants. -/
theorem CommandEffect.keeps_inv {s t : State} {i : Instr} (he : CommandEffect s i t) (h : Inv s) : Inv t := by
  have ⟨hregs, hrx, htx, hretry, hnr, hpost, hfull, hstamp⟩ := h
  cases he with
  | tick now => exact (inv_setResult _ _).2 (advance_keeps_inv now h)
  | reset now => exact resetEngine_keeps_inv now h
  | enqueue idx val u hu => obtain ⟨_, rfl⟩ := push_some hu; exact h
  | post nr hn hs => exact ⟨hregs, hrx, htx, hretry, hn, fun _ => rfl, hfull, hstamp⟩
  | complete hs hc => exact ⟨hregs, hrx, htx, hretry, hnr, fun hf => (nomatch hf), hfull, hstamp⟩
  | prepared nr w hn =>
    exact ⟨hregs, hrx, .inr (by simp [encWriteMultiple_length]), hretry, hnr, hpost, hfull, hstamp⟩
  | address addr => exact h
  | pacing ms => exact h
  | features skip norefresh => exact h
  | answer i r ha hr => exact h

/-- Settles O48: only the receive phase suspends a clause, the full budget, and phase 2 restores it. -/
theorem stepKeepsTheInvariants : Obligations.StepKeepsTheInvariants := by
  unfold Obligations.StepKeepsTheInvariants
  intro s t hinv h
  rcases step_effect h with ⟨rest, q, r, rfl⟩ | ⟨i, rest, -, he⟩
  · exact hinv
  · exact he.keeps_inv (s := takeAction rest s) hinv

/-- Settles O50: REDIRECT under the invariants is old, and then its source is still logged, or has just been
transmitted for the posted bank. -/
theorem stepKeepsRedirectSource : Obligations.StepKeepsRedirectSource := by
  unfold Obligations.StepKeepsRedirectSource
  intro s t hinv hsource h hredirect
  obtain ⟨-, -, -, -, hnr, -⟩ := hinv
  rcases step_tick_reset_or_kept h with ⟨now, rest, -, rfl⟩ | ⟨now, rest, -, rfl⟩ | hk
  · rw [setResult_redirect] at hredirect
    rw [setResult_txlog, setResult_params, advance_params]
    rcases advance_redirect hredirect with hold | ⟨-, -, hlog⟩
    · obtain ⟨time, addr, nr, hle, hmem⟩ := hsource hold
      exact ⟨time, addr, nr, hle, (advance_extends_txlog now (takeAction rest s)).subset hmem⟩
    · exact ⟨now, s.devAddr, s.ppNr, hnr, by simp [hlog]⟩
  · cases hredirect
  · unfold RedirectHasSource at hsource
    rw [hk.params, hk.txlog]
    exact hsource (hk.redirect hredirect)

/-! ### Records, caches and configuration -/

/-- Settles O53: a tick's first two phases advance the counter at most once, and no other operation counts. -/
theorem replyCounterAdvancesByOne : Obligations.ReplyCounterAdvancesByOne := by
  unfold Obligations.ReplyCounterAdvancesByOne
  intro s t h
  rcases step_tick_reset_or_kept h with ⟨now, rest, hn, rfl⟩ | ⟨now, rest, hn, rfl⟩ | hk
  · rw [setResult_replyCtr]
    rcases tick_counts now (takeAction rest s) with ⟨hc, -⟩ | ⟨hc, -⟩
    · exact .inl hc
    · exact .inr (.inl ⟨hc, now, hn⟩)
  · exact .inr (.inr ⟨rfl, now, hn⟩)
  · exact .inl hk.replyCtr

/-- Settles O54: of all operations but a reset, only a tick's routing writes a cache. -/
theorem cachesChangeOnlyByReplies : Obligations.CachesChangeOnlyByReplies := by
  unfold Obligations.CachesChangeOnlyByReplies
  intro s t h
  rcases step_tick_reset_or_kept h with ⟨now, rest, hn, rfl⟩ | ⟨now, rest, hn, rfl⟩ | hk
  · rw [setResult_hreg, setResult_pbuf, setResult_rclass, setResult_replyCtr]
    obtain ⟨hhreg, hpbuf⟩ := advance_caches now (takeAction rest s)
    exact ⟨fun hne => .inl ⟨⟨now, hn⟩, hhreg.resolve_left hne⟩, fun hne => .inl ⟨⟨now, hn⟩, hpbuf.resolve_left hne⟩⟩
  · exact ⟨fun _ => .inr ⟨now, hn⟩, fun _ => .inr ⟨now, hn⟩⟩
  · exact ⟨fun hne => absurd hk.hreg hne, fun hne => absurd hk.pbuf hne⟩

/-- Settles O55: of all that a step can do, only priority 3 of phase 3 sets REDIRECT. -/
theorem redirectIsSetByThePresetRead : Obligations.RedirectIsSetByThePresetRead := by
  unfold Obligations.RedirectIsSetByThePresetRead
  intro s t h hclear hset
  rcases step_tick_reset_or_kept h with ⟨now, rest, hn, rfl⟩ | ⟨now, rest, -, rfl⟩ | hk
  · rw [setResult_redirect] at hset
    rw [setResult_preqPending, setResult_txlog, setResult_now, advance_now]
    rcases advance_redirect hset with hold | ⟨hposted, hsent, hlog⟩
    · rw [takeAction_redirect, hclear] at hold; cases hold
    · exact ⟨⟨now, hn⟩, hposted, hsent, hlog⟩
  · cases hset
  · rw [hk.redirect hset] at hclear; cases hclear

/-- Settles O58: by the effect of each operation; in a tick only priority 1 of phase 3 touches the slot. -/
theorem preparedFrameWaitsUnchanged : Obligations.PreparedFrameWaitsUnchanged := by
  unfold Obligations.PreparedFrameWaitsUnchanged
  intro s t h
  rcases step_effect h with ⟨rest, q, r, rfl⟩ | ⟨i, rest, hn, he⟩
  · exact .inl rfl
  · cases he with
    | tick now =>
      rw [setResult_txbuf, setResult_txlog, setResult_now, advance_now]
      rcases advance_slot now (takeAction rest s) with hkept | ⟨hempty, hlog⟩
      · exact .inl hkept
      · exact .inr (.inr (.inl ⟨hempty, ⟨now, hn⟩, hlog⟩))
    | reset now => exact .inr (.inr (.inr ⟨rfl, now, hn⟩))
    | enqueue idx val u hu => obtain ⟨_, rfl⟩ := push_some hu; exact .inl rfl
    | prepared nr w hle => exact .inr (.inl ⟨nr, w, hle, hn, by simp [encWriteMultiple_length]⟩)
    | _ => exact .inl rfl

/-- Settles O59: the record moves only where classification routes an exception reply, and there always. -/
theorem exceptionRecordIsSticky : Obligations.ExceptionRecordIsSticky := by
  unfold Obligations.ExceptionRecordIsSticky
  intro s t h
  refine ⟨?_, ?_, ?_⟩
  · intro hvalid
    rcases step_tick_reset_or_kept h with ⟨now, rest, -, rfl⟩ | ⟨now, rest, hn, rfl⟩ | hk
    · rw [setResult_excValid]
      rcases advance_keeps_record_or_exception now (takeAction rest s) with ⟨hv, -⟩ | ⟨addr, orig, code, lo, hi, hd⟩
      · exact .inl (hv.trans hvalid)
      · exact .inl (advance_of_exception hd).1
    · exact .inr ⟨now, hn⟩
    · exact .inl (hk.excValid.trans hvalid)
  · intro hchanged
    rcases step_tick_reset_or_kept h with ⟨now, rest, hn, rfl⟩ | ⟨now, rest, hn, rfl⟩ | hk
    · rw [setResult_excValid, setResult_excCode] at hchanged
      rw [setResult_excValid, setResult_excCode, setResult_rclass, setResult_replyCtr]
      rcases advance_keeps_record_or_exception now (takeAction rest s) with ⟨hv, hc⟩ | ⟨addr, orig, code, lo, hi, hd⟩
      · exact (hchanged.elim (· hc) (· hv)).elim
      · obtain ⟨hvalid, rfl, hclass, hctr⟩ := advance_of_exception (now := now) hd
        exact .inl ⟨⟨now, hn⟩, ⟨addr, orig, lo, hi, takeAction_drained_reply rest s ▸ hd⟩, hvalid, hclass, hctr⟩
    · exact .inr ⟨now, hn⟩
    · exact (hchanged.elim (· hk.excCode) (· hk.excValid)).elim
  · intro now addr orig code lo hi hn hd
    obtain ⟨rest, rfl⟩ := step_of_nextIs_adv hn h
    obtain ⟨hvalid, hcode, -⟩ :=
      advance_of_exception (now := now) ((takeAction_drained_reply rest s).trans hd)
    rw [setResult_excValid, setResult_excCode]
    exact ⟨hvalid, hcode⟩

/-- Settles O60: by the effect of each operation. -/
theorem configurationChangesOnlyByItsOperation : Obligations.ConfigurationChangesOnlyByItsOperation := by
  unfold Obligations.ConfigurationChangesOnlyByItsOperation
  intro s t h
  rcases step_effect h with ⟨rest, q, r, rfl⟩ | ⟨i, rest, hn, he⟩
  · simp
  · cases he with
    | tick now => simp [advance_hreg_length]
    | reset now => exact ⟨rfl, by simp, fun _ => .inr ⟨now, hn⟩, fun _ => .inr ⟨now, hn⟩, fun _ => .inr ⟨now, hn⟩⟩
    | enqueue idx val u hu => obtain ⟨_, rfl⟩ := push_some hu; simp
    | address addr => simpa using fun _ => .inl ⟨addr, hn⟩
    | pacing ms => simpa using fun _ => .inl ⟨ms, hn⟩
    | features skip norefresh =>
      exact ⟨rfl, rfl, fun hne => (hne rfl).elim, fun hne => (hne rfl).elim, fun _ => .inl ⟨skip, norefresh, hn⟩⟩
    | _ => simp

/-! ### The agents and the reset state -/

/-- Settles O3: the fetch of an action, with the transport's and with none. -/
theorem transportAndIdleSteps : Obligations.TransportAndIdleSteps :=
  ⟨fun _ _ _ h => step_of_receive h, fun _ h => step_of_idle h⟩

/-- Settles O44: N_REGS and TIMEOUT_TICKS are in range by their types, all else is the table's literal. -/
theorem resetStateHoldsTheTable : Obligations.ResetStateHoldsTheTable := by
  have hregs : 1 ≤ State.reset.hreg.length ∧ State.reset.hreg.length ≤ 127 := by
    have := Config.nRegsSel.isLt
    rw [reset_hreg_length]; omega
  have hzero : ∀ x ∈ State.reset.hreg, x = 0 := fun x hx => List.eq_of_mem_replicate hx
  have hbank : ∀ k : Fin 14, State.reset.pbuf[k] = 0 := by simp [State.reset, State.afterReset]
  have hbudget : 4 ≤ State.reset.retry.toNat := by
    rw [show State.reset.retry = Config.params.timeoutTicks from rfl, timeoutTicks_toNat]; omega
  exact ⟨⟨hregs.1, hregs.2, hzero⟩, hbank, rfl, rfl, rfl, rfl, rfl, rfl, rfl, rfl, rfl, rfl, rfl, rfl, rfl, rfl, rfl,
    rfl, ⟨hbudget, rfl⟩, rfl, rfl, rfl, rfl, rfl, rfl⟩

/-- Settles O47: the reset state has sent nothing and redirects nothing. -/
theorem resetMeetsTheInvariants : Obligations.ResetMeetsTheInvariants := by
  have hregs : 1 ≤ Config.nRegs ∧ Config.nRegs ≤ 127 := by
    have := Config.nRegsSel.isLt
    unfold Config.nRegs; omega
  exact ⟨afterReset_inv hregs _ _, ⟨fun e he => (nomatch he), .inl rfl⟩, fun hf => (nomatch hf)⟩

end Sys2Proof.Machine
end

section
/-! PROOFS, family 20_memory.md: a command is run whole, the address of a preset bank, and a confirmed write read back
from the cache. The facts about fetching, the receive buffer, classification and the cache come first, then the
statements. -/

namespace Sys2Proof.Machine

open Sys2Proof

/-! ### Facts: a command at the head of the pending actions -/

/-- A step whose action is a command runs what its bits decode to, with the action taken (R51, R72, R73). -/
theorem step_of_command {s : State} {bits : List Bool} {rest : List Action} (h : s.agenda = .command bits :: rest) :
    step s = runDecoded (decodeCommand bits) (takeAction rest s) := by
  unfold step fetchAndRun; rw [h]; rfl

/-! ### Facts: the drain and the classification of a buffer -/

/-- Bytes drained into a buffer within its capacity: the first `cap` of both together stay, in order (R142). -/
theorem foldl_appendRx (cap : Nat) (bytes : List Byte) : ∀ buf : List Byte, buf.length ≤ cap →
    bytes.foldl (appendRx cap) buf = (buf ++ bytes).take cap := by
  induction bytes with
  | nil => intro buf h; simp [List.take_of_length_le h]
  | cons b bytes ih =>
    intro buf h
    rw [List.foldl_cons, ih _ (appendRx_length_le b h)]
    unfold appendRx
    split
    · rw [List.append_assoc, List.singleton_append]
    · have hfull : buf.length = cap := by omega
      rw [List.take_left' hfull, List.take_left' hfull]

/-- A drain that the buffer has room for reads every waiting byte (R142). -/
theorem drain_rxbuf_of_fits {s : State} (h : s.rxbuf.length + s.rxq.length ≤ s.rxbufCap) :
    (drain s).rxbuf = s.rxbuf ++ s.rxq := by
  have hfits : (s.rxbuf ++ s.rxq).length ≤ s.rxbufCap := by rwa [List.length_append]
  rw [drain, foldl_appendRx _ _ _ (by omega), List.take_of_length_le hfits]

/-- A buffer below MIN_FRAME decodes as incomplete (R143). -/
theorem decodeReply_of_short {maxPayload : Nat} {b : List Byte} (h : b.length < 5) :
    decodeReply maxPayload b = .incomplete := by
  match b with
  | _ :: _ :: _ :: _ :: _ :: _ => simp at h; omega
  | [] | [_] | [_, _] | [_, _, _] | [_, _, _, _] => rfl

/-- Classification routes what the decoder answers: below MIN_FRAME that is `incomplete`, which routing ignores (R115,
R143). -/
theorem classify_eq_route (s : State) : classify s = route (decodeReply s.maxPayload s.rxbuf) s := by
  by_cases h : s.rxbuf.length < 5
  · rw [classify_of_short h, decodeReply_of_short h]; rfl
  · exact if_pos (Nat.le_of_not_lt h)

/-- A buffer that begins with a write-single confirm decodes to its fields, whatever its CRC bytes are (R103, R108). -/
theorem decodeReply_writeSingle (maxPayload : Nat) (addr : Byte) (idx val : Word) (lo hi : Byte) (rest : List Byte) :
    decodeReply maxPayload (confirmFrame addr 0x06#8 idx val lo hi ++ rest) =
      .writeSingleConfirm addr idx val lo hi := by
  have hfields : decodeReply maxPayload (confirmFrame addr 0x06#8 idx val lo hi ++ rest) =
      .writeSingleConfirm addr (be16 (hi8 idx) (lo8 idx)) (be16 (hi8 val) (lo8 val)) lo hi := rfl
  rw [hfields, be16_hi8_lo8, be16_hi8_lo8]

/-! ### Facts: a confirmed write in the cache -/

/-- A write at an 8-bit index of the array stores the value in that register (R111). -/
theorem setReg_of_lt {idx : Byte} {regs : List Word} (h : idx.toNat < regs.length) (val : Word) :
    setReg (idx.setWidth 16) val regs = regs.set idx.toNat val := by
  have hidx : (idx.setWidth 16).toNat = idx.toNat := BitVec.toNat_setWidth_of_le (by decide)
  rw [setReg, hidx, if_pos h]

/-- A tick on bytes, buffered and waiting, that are a write-single confirm writes the cache and counts the reply (R109,
R111). -/
theorem advance_of_writeSingle {now : Time} {s : State} {addr : Byte} {idx val : Word} {lo hi : Byte}
    (h : decodeReply s.maxPayload (drain s).rxbuf = .writeSingleConfirm addr idx val lo hi) :
    (advance now s).hreg = setReg idx val s.hreg ∧ (advance now s).rclass = .confirm ∧
      (advance now s).replyCtr = s.replyCtr + 1 := by
  have hphase1 : phase1 (tickStart now s) = routeWriteSingle addr idx val (drain (tickStart now s)) := by
    rw [phase1, classify_eq_route, (tickStart_drained_reply now s).trans h]; rfl
  have hidle : (phase1 (tickStart now s)).await = false := by rw [hphase1]; rfl
  obtain ⟨-, -, hclass⟩ := advance_exception_record now s
  rw [advance_hreg, hclass, advance_replyCtr_of_accepted hidle, hphase1]
  exact ⟨rfl, rfl, rfl⟩

/-- RDC on a state answers the cached value and nothing else moves (R120). -/
theorem exec_rdc (idx : Byte) (s : State) : exec (.rdc idx) s = .next (setResult (.val (cacheGet s idx)) s) := rfl

/-- A register of the array reads as the value last written there (R111, R120). -/
theorem cacheGet_of_hreg_eq_setReg {s : State} {idx : Byte} {val : Word} {regs : List Word}
    (hlt : idx.toNat < regs.length) (h : s.hreg = setReg (idx.setWidth 16) val regs) : cacheGet s idx = val := by
  have hlt' : idx.toNat < s.hreg.length := by rwa [h, setReg_length]
  rw [cacheGet_of_lt hlt']
  simp [h, setReg_of_lt hlt]

/-! ### The statements -/

/-- Settles O32: the frame fits the empty buffer whole, the tick routes it to the cache, and RDC reads the cache. -/
theorem confirmedWriteIsReadBack : Obligations.ConfirmedWriteIsReadBack := by
  unfold Obligations.ConfirmedWriteIsReadBack
  intro s now addr idx val lo hi hlt hempty hframe
  have hrxq : s.rxq = confirmFrame addr 0x06#8 (idx.setWidth 16) val lo hi := (Image.toEngine.inj hframe).symm
  have hfits : s.rxbuf.length + s.rxq.length ≤ s.rxbufCap := by
    have := rxbufCap_ge s
    rw [hempty, hrxq]; simp only [confirmFrame, List.length_cons, List.length_nil]; omega
  have hreply : decodeReply s.maxPayload (drain s).rxbuf = .writeSingleConfirm addr (idx.setWidth 16) val lo hi := by
    rw [drain_rxbuf_of_fits hfits, hempty, hrxq, List.nil_append]
    simpa using decodeReply_writeSingle s.maxPayload addr (idx.setWidth 16) val lo hi []
  obtain ⟨hhreg, hclass, hctr⟩ := advance_of_writeSingle (now := now) hreply
  have hread : cacheGet (setResult .none (advance now s)) idx = val := cacheGet_of_hreg_eq_setReg hlt hhreg
  refine ⟨setResult .none (advance now s), _, rfl, exec_rdc idx _, ?_, hctr, hclass⟩
  rw [setResult_result, hread]

/-- Settles O1: the fetch of a command and the dispatch of what it decodes to. -/
theorem stepRunsDecodedCommand : Obligations.StepRunsDecodedCommand := by
  unfold Obligations.StepRunsDecodedCommand
  intro s bits rest i hagenda hdecode
  rw [step_of_command hagenda, hdecode]
  rfl

/-- Settles O33: the sum and the product of words are those of their numbers modulo 2^16. -/
theorem bankAddressIsAffineModulo : Obligations.BankAddressIsAffineModulo := by
  unfold Obligations.BankAddressIsAffineModulo
  intro p nr
  have hnr : (nr.setWidth 16).toNat = nr.toNat := BitVec.toNat_setWidth_of_le (by decide)
  rw [bankAddr, BitVec.toNat_add, BitVec.toNat_mul, hnr, Nat.add_mod_mod]

end Sys2Proof.Machine
end

section
/-! PROOFS, family 30_encoding.md: the round trips of commands, request frames and reply frames, what a received buffer
can be, and what a bit string that is no command does. The facts about reading commands, requests and replies come
first, then the statements. -/

namespace Sys2Proof.Machine

open Sys2Proof

/-! ### Facts: reading a command -/

@[simp] theorem takeField_commandBits (op : BitVec 4) (operands : List Bool) :
    takeField 4 (commandBits op operands) = some (op, operands) := takeField_bitsOf op operands

/-- An operand whose field is all the bits is read whole. -/
@[simp] theorem operand1_bitsOf {n : Nat} (x : BitVec n) (f : BitVec n → Instr) :
    operand1 n (bitsOf x) f = .instr (f x) := by
  have hread := takeField_bitsOf x []
  rw [List.append_nil] at hread
  rw [operand1, hread]; rfl

@[simp] theorem operand2_bitsOf {n m : Nat} (x : BitVec n) (y : BitVec m) (f : BitVec n → BitVec m → Instr) :
    operand2 n m (bitsOf x ++ bitsOf y) f = .instr (f x y) := by
  rw [operand2, takeField_bitsOf]; exact operand1_bitsOf y (f x)

@[simp] theorem operandBank_bitsOf (nr : BankNr) (w : Bank) :
    operandBank (bitsOf nr ++ bitsOfBank w) = .instr (.pps nr w) := by
  have hbank := takeBank_bitsOfBank w []
  rw [List.append_nil] at hbank
  simp only [operandBank, takeField_bitsOf, hbank, finish]

/-- The two flag bits of SFL are two fields of one bit (R72, R159). -/
theorem flagBits_eq_bitsOf (skip norefresh : Bool) :
    [skip, norefresh] = bitsOf (BitVec.ofBool skip) ++ bitsOf (BitVec.ofBool norefresh) := by
  cases skip <;> cases norefresh <;> rfl

/-- A host operation is read back from its encoding (R72). -/
theorem decode_encode_command (maxPayload : Nat) {i : Instr} (hc : i.isCommand = true) :
    decode maxPayload (encode i) = .instr i := by
  cases i with
  | rdc _ | prq _ | frs _ | sda _ | spi _ | adv _ | rst _ | enq _ _ | pps _ _ => simp [encode, decode, decodeCommand]
  | ppl | rct => simp [encode, decode, decodeCommand, finish]
  | sfl skip norefresh => simp [encode, decode, decodeCommand, flagBits_eq_bitsOf]
  | _ => cases hc

/-- What the command decoder can answer for a bit string: the instruction of which it is the whole encoding, or one
of three reasons (R72, R73). -/
inductive CommandOutcome (bits : List Bool) : Decoded → Prop
  | instr (i : Instr) (hencode : encode i = .command bits) : CommandOutcome bits (.instr i)
  | short : CommandOutcome bits (.rejected .shortCommand)
  | long : CommandOutcome bits (.rejected .longCommand)
  | reserved (op : BitVec 4) : CommandOutcome bits (.rejected (.reservedCode op))

/-! The readers of operands, `front` being the bits before them: what they answer for all the bits. -/

theorem finish_outcome {i : Instr} {front rest : List Bool} (h : encode i = .command front) :
    CommandOutcome (front ++ rest) (finish i rest) := by
  cases rest with
  | nil => exact .instr i (by rwa [List.append_nil])
  | cons _ _ => exact .long

theorem operand1_outcome {n : Nat} {f : BitVec n → Instr} {front rest : List Bool}
    (h : ∀ x, encode (f x) = .command (front ++ bitsOf x)) : CommandOutcome (front ++ rest) (operand1 n rest f) := by
  unfold operand1
  split
  · next x tail hx =>
    rw [takeField_eq_some hx, ← List.append_assoc]
    exact finish_outcome (h x)
  · exact .short

theorem operand2_outcome {n m : Nat} {f : BitVec n → BitVec m → Instr} {front rest : List Bool}
    (h : ∀ x y, encode (f x y) = .command (front ++ (bitsOf x ++ bitsOf y))) :
    CommandOutcome (front ++ rest) (operand2 n m rest f) := by
  unfold operand2
  split
  · next x tail hx =>
    rw [takeField_eq_some hx, ← List.append_assoc]
    exact operand1_outcome fun y => by rw [h x y, List.append_assoc]
  · exact .short

theorem operandBank_outcome (rest : List Bool) : CommandOutcome (bitsOf 0x5#4 ++ rest) (operandBank rest) := by
  unfold operandBank
  split
  · next nr tail hnr =>
    split
    · next w tail' hw =>
      rw [takeField_eq_some hnr, takeBank_eq_some hw, ← List.append_assoc, ← List.append_assoc]
      exact finish_outcome (by rw [List.append_assoc]; rfl)
    · exact .short
  · exact .short

/-- SFL's flags, as the decoder reads them from two fields of one bit, encode to those fields (R72, R159). -/
theorem encode_sfl (skip norefresh : BitVec 1) :
    encode (.sfl (skip.getLsbD 0) (norefresh.getLsbD 0)) =
      .command (bitsOf 0xA#4 ++ (bitsOf skip ++ bitsOf norefresh)) := by
  have hbit : ∀ x : BitVec 1, BitVec.ofBool (x.getLsbD 0) = x := by decide
  rw [encode, flagBits_eq_bitsOf, hbit, hbit, commandBits]

/-- A test of the code: the branch for code `k` answers for bits that begin with `k`. -/
theorem CommandOutcome.ite_code {op k : BitVec 4} {rest : List Bool} {d e : Decoded}
    (hthen : CommandOutcome (bitsOf k ++ rest) d) (helse : CommandOutcome (bitsOf op ++ rest) e) :
    CommandOutcome (bitsOf op ++ rest) (if op = k then d else e) := by
  split
  · next hcode => rwa [hcode]
  · exact helse

/-- What the command decoder answers, by the code at the front of the bits (R72, R73). -/
theorem decodeCommand_outcome (bits : List Bool) : CommandOutcome bits (decodeCommand bits) := by
  unfold decodeCommand
  split
  · exact .short
  · next op rest hop =>
    obtain rfl := takeField_eq_some hop
    -- The codes in the decoder's order: RDC, ENQ, PRQ, PPL, PPS, RCT, FRS, SDA, SPI, SFL, ADV, RST.
    exact .ite_code (operand1_outcome fun _ => rfl) <| .ite_code (operand2_outcome fun _ _ => rfl) <|
      .ite_code (operand1_outcome fun _ => rfl) <| .ite_code (finish_outcome rfl) <|
      .ite_code (operandBank_outcome rest) <| .ite_code (finish_outcome rfl) <|
      .ite_code (operand1_outcome fun _ => rfl) <| .ite_code (operand1_outcome fun _ => rfl) <|
      .ite_code (operand1_outcome fun _ => rfl) <| .ite_code (operand2_outcome encode_sfl) <|
      .ite_code (operand1_outcome fun _ => rfl) <| .ite_code (operand1_outcome fun _ => rfl) <| .reserved op

/-- A bit string that decodes to an instruction is its encoding. -/
theorem encode_of_decodeCommand {bits : List Bool} {i : Instr} (h : decodeCommand bits = .instr i) :
    encode i = .command bits := by
  have houtcome := decodeCommand_outcome bits
  rw [h] at houtcome
  cases houtcome with
  | instr _ hencode => exact hencode

/-- A command of a reserved code decodes to nothing, whatever bits follow (R73). -/
theorem decodeCommand_of_reserved {op : BitVec 4} (h : op = 0x0#4 ∨ op = 0xC#4 ∨ op = 0xD#4 ∨ op = 0xE#4)
    (operands : List Bool) : decodeCommand (bitsOf op ++ operands) = .rejected (.reservedCode op) := by
  unfold decodeCommand
  rw [takeField_bitsOf]
  rcases h with rfl | rfl | rfl | rfl <;> rfl

/-- A refused step runs a command (R31: the transport's action is never refused). -/
theorem step_refused {s : State} {r : Refusal} (h : step s = .refused r) :
    ∃ bits rest, s.agenda = .command bits :: rest ∧
      runDecoded (decodeCommand bits) (takeAction rest s) = .refused r := by
  match hagenda : s.agenda with
  | [] => rw [step_of_idle hagenda] at h; cases h
  | .receive _ :: _ => rw [step_of_receive hagenda] at h; cases h
  | .command bits :: rest => rw [step_of_command hagenda] at h; exact ⟨bits, rest, rfl, h⟩

/-- Running a decoded bit string is refused only for one that is too short or too long (log entry 13). -/
theorem runDecoded_refused {bits : List Bool} {s : State} {r : Refusal}
    (h : runDecoded (decodeCommand bits) s = .refused r) :
    r = .notACommand .shortCommand ∧ decodeCommand bits = .rejected .shortCommand ∨
      r = .notACommand .longCommand ∧ decodeCommand bits = .rejected .longCommand := by
  have houtcome := decodeCommand_outcome bits
  generalize decodeCommand bits = d at h houtcome
  cases houtcome with
  | instr i _ =>
    obtain ⟨t, ht⟩ := exec_next i s
    rw [runDecoded, ht] at h; cases h
  | short => cases h; exact .inl ⟨rfl, rfl⟩
  | long => cases h; exact .inr ⟨rfl, rfl⟩
  | reserved op => cases h

/-! ### Facts: a request frame and its CRC -/

@[simp] theorem crcCheck_crcAppend (body : List Byte) : crcCheck (crcAppend body) = true := by
  simp [crcCheck, crcAppend, be16_hi8_lo8]

/-- The validator accepts exactly the sequences that `CrcAppend` makes (R81, R82). -/
theorem crcCheck_iff (f : List Byte) : crcCheck f = true ↔ ∃ body, f = crcAppend body := by
  refine ⟨fun h => ?_, fun ⟨body, hf⟩ => hf ▸ crcCheck_crcAppend body⟩
  unfold crcCheck at h
  split at h
  · next hi lo body hrev =>
    have hcrc : crc16 body.reverse = be16 hi lo := eq_of_beq h
    refine ⟨body.reverse, ?_⟩
    rw [crcAppend, hcrc, lo8_be16, hi8_be16, ← List.reverse_reverse f, hrev]
    simp
  · cases h

/-- A frame with its CRC is read by its body. -/
theorem decodeRequest_crcAppend (body : List Byte) : decodeRequest (crcAppend body) = decodeRequestBody body := by
  have hbody : (crcAppend body).take ((crcAppend body).length - 2) = body := by simp [crcAppend]
  rw [decodeRequest, if_pos (crcCheck_crcAppend body), hbody]

/-- Bytes read as a request are a body with its CRC, read by that body. -/
theorem decodeRequest_instr {f : List Byte} {i : Instr} (h : decodeRequest f = .instr i) :
    ∃ body, f = crcAppend body ∧ decodeRequestBody body = .instr i := by
  by_cases hcrc : crcCheck f = true
  · obtain ⟨body, rfl⟩ := (crcCheck_iff f).1 hcrc
    exact ⟨body, rfl, decodeRequest_crcAppend body ▸ h⟩
  · rw [decodeRequest, if_neg hcrc] at h; cases h

/-! ### Facts: the body of a request frame -/

/-- The low byte of a number's word is the number's byte. -/
theorem lo8_ofNat (n : Nat) : lo8 (BitVec.ofNat 16 n) = BitVec.ofNat 8 n := by
  apply BitVec.eq_of_toNat_eq
  simp only [lo8, BitVec.extractLsb'_toNat, BitVec.toNat_ofNat, Nat.shiftRight_zero]
  omega

/-- The byte count of at most 127 words fits its byte (R64, R65). -/
theorem toNat_byteCount {n : Nat} (h : n ≤ 127) : (BitVec.ofNat 8 (2 * n)).toNat = 2 * n :=
  Nat.mod_eq_of_lt (by omega)

theorem decodeRequestBody_rdreqBody (addr : Byte) (start count : Word) :
    decodeRequestBody (rdreqBody addr start count) = .instr (.rdreq addr start count) := by
  simp [decodeRequestBody, rdreqBody, be16_hi8_lo8]

theorem decodeRequestBody_wrsreqBody (addr idx : Byte) (val : Word) :
    decodeRequestBody (wrsreqBody addr idx val) = .instr (.wrsreq addr idx val) := by
  simp [decodeRequestBody, wrsreqBody, be16_hi8_lo8]

/-- A body of function 0x10 whose count, byte count and payload agree is read as a WRMREQ (R64). -/
theorem decodeRequestBody_writeMultiple (addr sh sl ch cl : Byte) {bc : Byte} {payload : List Byte}
    (hcount : bc.toNat = 2 * (be16 ch cl).toNat) (hpayload : payload.length = bc.toNat) :
    decodeRequestBody (addr :: 0x10#8 :: sh :: sl :: ch :: cl :: bc :: payload) =
      .instr (.wrmreq addr (be16 sh sl) (wordsOfBytes payload)) :=
  (if_neg (not_not.2 hcount)).trans (if_neg (not_not.2 hpayload))

theorem decodeRequestBody_wrmreqBody (addr : Byte) (start : Word) {words : List Word}
    (h : words.length ≤ 127) :
    decodeRequestBody (wrmreqBody addr start words) = .instr (.wrmreq addr start words) := by
  have hcount : (BitVec.ofNat 16 words.length).toNat = words.length := Nat.mod_eq_of_lt (by omega)
  have hbytes : (lo8 (BitVec.ofNat 16 (2 * words.length))).toNat = 2 * words.length := by
    rw [lo8_ofNat, toNat_byteCount h]
  have hread := decodeRequestBody_writeMultiple addr (hi8 start) (lo8 start)
    (hi8 (BitVec.ofNat 16 words.length)) (lo8 (BitVec.ofNat 16 words.length))
    (bc := lo8 (BitVec.ofNat 16 (2 * words.length))) (payload := bytesOfWords words)
    (by rw [be16_hi8_lo8, hcount, hbytes]) (by rw [bytesOfWords_length, hbytes])
  rwa [be16_hi8_lo8, wordsOfBytes_bytesOfWords] at hread

/-- A payload of twice `count` bytes, after its count and byte count, is the body of a WRMREQ of its words, which are
few enough for one byte (R64). -/
theorem wrmreqBody_wordsOfBytes (addr sh sl ch cl : Byte) {bc : Byte} {payload : List Byte}
    (hcount : bc.toNat = 2 * (be16 ch cl).toNat) (hpayload : payload.length = bc.toNat) :
    (wordsOfBytes payload).length ≤ 127 ∧
      wrmreqBody addr (be16 sh sl) (wordsOfBytes payload) =
        addr :: 0x10#8 :: sh :: sl :: ch :: cl :: bc :: payload := by
  obtain ⟨hbytes, hlength⟩ := bytesOfWords_wordsOfBytes _ payload (hpayload.trans hcount)
  have hbc := bc.isLt
  have hn : BitVec.ofNat 16 (be16 ch cl).toNat = be16 ch cl := BitVec.ofNat_toNat 16 _ |>.trans (BitVec.setWidth_eq _)
  have hbc8 : lo8 (BitVec.ofNat 16 bc.toNat) = bc := by rw [lo8_ofNat, BitVec.ofNat_toNat, BitVec.setWidth_eq]
  refine ⟨by omega, ?_⟩
  rw [wrmreqBody, hbytes, hlength, ← hcount, hbc8, hn, hi8_be16, lo8_be16, hi8_be16, lo8_be16]
  rfl

/-- A body that is read as a request is the body of that well-formed request (R62, R63, R64). -/
theorem encode_of_decodeRequestBody {body : List Byte} {i : Instr} (h : decodeRequestBody body = .instr i) :
    i.isRequest = true ∧ i.wellFormed = true ∧ encode i = .toSlave (crcAppend body) := by
  unfold decodeRequestBody at h
  split at h
  · next addr fc sh sl ch cl tail =>
    split at h
    · next hread =>
      split at h <;> cases h
      next hend =>
      refine ⟨rfl, rfl, ?_⟩
      rw [encode, rdreqBody, hi8_be16, lo8_be16, hi8_be16, lo8_be16, hread, hend]
    split at h
    · next hsingle =>
      split at h
      · cases h
      split at h <;> cases h
      next hend hhigh =>
      refine ⟨rfl, rfl, ?_⟩
      rw [encode, wrsreqBody, hi8_be16, lo8_be16, hsingle, not_not.1 hend, not_not.1 hhigh]
    split at h
    · next hmultiple =>
      split at h
      · next bc payload =>
        split at h
        · cases h
        split at h <;> cases h
        next hcount hlength =>
        obtain ⟨hfew, hbody⟩ := wrmreqBody_wordsOfBytes addr sh sl ch cl (not_not.1 hcount) (not_not.1 hlength)
        refine ⟨rfl, decide_eq_true hfew, ?_⟩
        rw [encode, hbody, hmultiple]
      · cases h
    · cases h
  · cases h

/-- A well-formed request is read back from its encoding (R62, R63, R64, R81). -/
theorem decode_encode_request (maxPayload : Nat) {i : Instr} (hreq : i.isRequest = true) (hwf : i.wellFormed = true) :
    decode maxPayload (encode i) = .instr i := by
  cases i with
  | rdreq addr start count => exact (decodeRequest_crcAppend _).trans (decodeRequestBody_rdreqBody addr start count)
  | wrsreq addr idx val => exact (decodeRequest_crcAppend _).trans (decodeRequestBody_wrsreqBody addr idx val)
  | wrmreq addr start words =>
    exact (decodeRequest_crcAppend _).trans (decodeRequestBody_wrmreqBody addr start (of_decide_eq_true hwf))
  | _ => cases hreq

/-! ### Facts: the function byte of a received buffer -/

/-- The cases of the map R69: an exception, one of three functions, or a byte outside the map. -/
theorem functionByte_cases (fc : Byte) :
    fc.getLsbD 7 = true ∨ fc = 0x03#8 ∨ fc = 0x06#8 ∨ fc = 0x10#8 ∨
      (fc.getLsbD 7 = false ∧ fc ≠ 0x03#8 ∧ fc ≠ 0x06#8 ∧ fc ≠ 0x10#8) := by
  by_cases h7 : fc.getLsbD 7 = true
  · exact .inl h7
  · have h7' : fc.getLsbD 7 = false := by simpa using h7
    tauto

section
variable (maxPayload : Nat) (addr : Byte) {fc : Byte} (b2 b3 b4 : Byte) (rest : List Byte)

/-! What a buffer of at least MIN_FRAME bytes decodes to, for each case of the map (R69, R100). -/

theorem decodeReply_of_bit7 (h : fc.getLsbD 7 = true) :
    decodeReply maxPayload (addr :: fc :: b2 :: b3 :: b4 :: rest) = .exception addr (fc.setWidth 7) b2 b3 b4 :=
  if_pos h

/-- A buffer of function 0x03 is judged as a read reply; `tail` is what follows the byte count (R102). -/
theorem decodeReply_of_readReply {tail : List Byte} (h : 2 ≤ tail.length) :
    decodeReply maxPayload (addr :: 0x03#8 :: b2 :: tail) =
      decodeReadReply maxPayload (addr :: 0x03#8 :: b2 :: tail) addr b2 := by
  match tail, h with
  | _ :: _ :: _, _ => rfl

theorem decodeReply_of_writeSingle :
    decodeReply maxPayload (addr :: 0x06#8 :: b2 :: b3 :: b4 :: rest) =
      if h : rest.length < 3 then .incomplete
      else .writeSingleConfirm addr (be16 b2 b3) (be16 b4 rest[0]) rest[1] rest[2] := by
  match rest with
  | [] | [_] | [_, _] | _ :: _ :: _ :: _ => rfl

theorem decodeReply_of_writeMultiple :
    decodeReply maxPayload (addr :: 0x10#8 :: b2 :: b3 :: b4 :: rest) =
      if h : rest.length < 3 then .incomplete
      else .writeMultipleConfirm addr (be16 b2 b3) (be16 b4 rest[0]) rest[1] rest[2] := by
  match rest with
  | [] | [_] | [_, _] | _ :: _ :: _ :: _ => rfl

theorem decodeReply_of_unknown (h7 : fc.getLsbD 7 = false)
    (hfc : fc ≠ 0x03#8 ∧ fc ≠ 0x06#8 ∧ fc ≠ 0x10#8) :
    decodeReply maxPayload (addr :: fc :: b2 :: b3 :: b4 :: rest) = .malformed .unknownFunction := by
  obtain ⟨h3, h6, h10⟩ := hfc
  have h7' : ¬ fc.getLsbD 7 = true := by rw [h7]; exact Bool.false_ne_true
  rw [decodeReply, if_neg h7', if_neg h3, if_neg h6, if_neg h10]

end

/-! The length that a frame needs, for each function byte that announces one (R71). -/

theorem need_of_bit7 {fc : Byte} (b2 : Byte) (h : fc.getLsbD 7 = true) : need fc b2 = 5 := if_pos h

theorem need_read (bc : Byte) : need 0x03#8 bc = 5 + bc.toNat := rfl

theorem need_writeSingle (b2 : Byte) : need 0x06#8 b2 = 8 := rfl

theorem need_writeMultiple (b2 : Byte) : need 0x10#8 b2 = 8 := rfl

/-! ### Facts: a read reply -/

/-- Bit 0 of a byte count tells whether it is odd (R102). -/
theorem getLsbD_zero_eq_odd (bc : Byte) : bc.getLsbD 0 = decide (bc.toNat % 2 = 1) := Nat.testBit_zero _

/-- Bytes that hold a payload of `n` bytes and a CRC, split there. -/
theorem payload_of_le_length {n : Nat} {tail : List Byte} (h : 2 + n ≤ tail.length) :
    ∃ payload lo hi rest, payload.length = n ∧ tail = payload ++ lo :: hi :: rest := by
  have hrest : 2 ≤ (tail.drop n).length := by rw [List.length_drop]; omega
  match hd : tail.drop n, hrest with
  | lo :: hi :: rest, _ =>
    exact ⟨tail.take n, lo, hi, rest, List.length_take_of_le (by omega), by rw [← hd, List.take_append_drop]⟩

/-- A whole frame of function 0x03 with an even byte count that the machine accepts is a read reply of its payload's
words, whatever bytes follow (R102, R71). -/
theorem decodeReadReply_whole {maxPayload : Nat} (addr : Byte) {bc : Byte} {payload : List Byte} (lo hi : Byte)
    (rest : List Byte) (hfits : bc.toNat ≤ maxPayload) (heven : bc.toNat % 2 = 0)
    (hlength : payload.length = bc.toNat) :
    decodeReadReply maxPayload (addr :: 0x03#8 :: bc :: (payload ++ lo :: hi :: rest)) addr bc =
      .readReply addr (wordsOfBytes payload) lo hi := by
  have hodd : ¬ bc.getLsbD 0 = true := by rw [getLsbD_zero_eq_odd]; simp [heven]
  have henough : ¬ (addr :: 0x03#8 :: bc :: (payload ++ lo :: hi :: rest)).length < 5 + bc.toNat := by
    simp [hlength]; omega
  rw [decodeReadReply, if_neg (by omega), if_neg hodd, if_neg henough, ← hlength, Nat.add_comm 3, Nat.add_comm 4]
  simp

/-- What a buffer of function 0x03 is: malformed by its byte count `bc`; or too short for it; or a read reply whose
words are the `bc` bytes after the byte count (R102). -/
theorem decodeReadReply_cases (maxPayload : Nat) (addr bc : Byte) (tail : List Byte) :
    (∃ why, decodeReadReply maxPayload (addr :: 0x03#8 :: bc :: tail) addr bc = .malformed why ∧
      (why = .oversized ∨ why = .odd)) ∨
    (decodeReadReply maxPayload (addr :: 0x03#8 :: bc :: tail) addr bc = .incomplete ∧
      bc.toNat ≤ maxPayload ∧ tail.length < 2 + bc.toNat) ∨
    (∃ values lo hi rest,
      decodeReadReply maxPayload (addr :: 0x03#8 :: bc :: tail) addr bc = .readReply addr values lo hi ∧
      2 * values.length = bc.toNat ∧ bc.toNat ≤ maxPayload ∧ tail = bytesOfWords values ++ lo :: hi :: rest) := by
  by_cases hover : maxPayload < bc.toNat
  · exact .inl ⟨_, if_pos hover, .inl rfl⟩
  by_cases hodd : bc.getLsbD 0 = true
  · exact .inl ⟨_, (if_neg hover).trans (if_pos hodd), .inr rfl⟩
  have hfits : bc.toNat ≤ maxPayload := Nat.le_of_not_lt hover
  by_cases hshort : tail.length < 2 + bc.toNat
  · have hbuffer : (addr :: 0x03#8 :: bc :: tail).length < 5 + bc.toNat := by
      simp only [List.length_cons]; omega
    exact .inr (.inl ⟨(if_neg hover).trans <| (if_neg hodd).trans <| if_pos hbuffer, hfits, hshort⟩)
  · obtain ⟨payload, lo, hi, rest, hlength, rfl⟩ := payload_of_le_length (Nat.le_of_not_lt hshort)
    have heven : bc.toNat % 2 = 0 := by
      rw [getLsbD_zero_eq_odd, decide_eq_true_iff] at hodd; omega
    obtain ⟨hbytes, hwords⟩ := bytesOfWords_wordsOfBytes (bc.toNat / 2) payload (by omega)
    exact .inr (.inr ⟨wordsOfBytes payload, lo, hi, rest, decodeReadReply_whole addr lo hi rest hfits heven hlength,
      by omega, hfits, by rw [hbytes]⟩)

/-! ### Facts: a buffer that begins with a frame -/

/-- An exception's function byte has bit 7 set and carries the original function below it (R67). -/
theorem functionByte_of_excrpl (orig : BitVec 7) :
    (0x80#8 ||| orig.setWidth 8).getLsbD 7 = true ∧ (0x80#8 ||| orig.setWidth 8).setWidth 7 = orig := by
  revert orig; decide

theorem functionByte_of_bit7 (fc : Byte) (h : fc.getLsbD 7 = true) : 0x80#8 ||| (fc.setWidth 7).setWidth 8 = fc := by
  revert fc; decide

/-- A buffer that begins with an exception reply decodes to its fields (R67, R101). -/
theorem decodeReply_excrplFrame (maxPayload : Nat) (addr : Byte) (orig : BitVec 7) (code lo hi : Byte)
    (rest : List Byte) :
    decodeReply maxPayload (excrplFrame addr orig code lo hi ++ rest) = .exception addr orig code lo hi := by
  obtain ⟨hbit7, horig⟩ := functionByte_of_excrpl orig
  have hread := decodeReply_of_bit7 maxPayload addr code lo hi rest hbit7
  rwa [horig] at hread

/-- A read reply and what follows it, with the byte count in front of what is judged by it. -/
theorem rdrplFrame_append (addr : Byte) (values : List Word) (lo hi : Byte) (rest : List Byte) :
    rdrplFrame addr values lo hi ++ rest =
      addr :: 0x03#8 :: BitVec.ofNat 8 (2 * values.length) :: (bytesOfWords values ++ lo :: hi :: rest) := by
  simp [rdrplFrame]

/-- A buffer that begins with a read reply that the machine accepts decodes to its words (R65, R102). -/
theorem decodeReply_rdrplFrame {maxPayload : Nat} (addr : Byte) {values : List Word} (lo hi : Byte)
    (rest : List Byte) (hfew : values.length ≤ 127) (hfits : 2 * values.length ≤ maxPayload) :
    decodeReply maxPayload (rdrplFrame addr values lo hi ++ rest) = .readReply addr values lo hi := by
  have hbc := toNat_byteCount hfew
  rw [rdrplFrame_append, decodeReply_of_readReply _ _ _ (by simp; omega),
    decodeReadReply_whole addr lo hi rest (by omega) (by omega) (by rw [bytesOfWords_length, hbc]),
    wordsOfBytes_bytesOfWords]

/-- A buffer that begins with a write-multiple confirm decodes to its fields (R66, R104). -/
theorem decodeReply_writeMultiple (maxPayload : Nat) (addr : Byte) (start count : Word) (lo hi : Byte)
    (rest : List Byte) :
    decodeReply maxPayload (confirmFrame addr 0x10#8 start count lo hi ++ rest) =
      .writeMultipleConfirm addr start count lo hi := by
  have hfields : decodeReply maxPayload (confirmFrame addr 0x10#8 start count lo hi ++ rest) =
      .writeMultipleConfirm addr (be16 (hi8 start) (lo8 start)) (be16 (hi8 count) (lo8 count)) lo hi := rfl
  rw [hfields, be16_hi8_lo8, be16_hi8_lo8]

/-! ### Facts: what classifying a buffer can answer -/

/-- What the decoder can answer for a buffer: the reply frame with which the buffer begins, as long as needed;
malformed; or to wait, below MIN_FRAME or below a need for which a receive buffer has room (R71, R100, R115). -/
inductive ReplyOutcome (maxPayload : Nat) (b : List Byte) : Reply → Prop
  | frame {r : Reply} (i : Instr) (f rest : List Byte) (hdecoded : r.decoded = .instr i) (hreply : i.isReply = true)
      (hwf : i.wellFormed = true) (hfits : i.fitsPayload maxPayload = true) (hencode : encode i = .toEngine f)
      (hbegins : b = f ++ rest) (hneed : f.length = need (b.getD 1 0) (b.getD 2 0)) : ReplyOutcome maxPayload b r
  | malformed (why : BadReply) : ReplyOutcome maxPayload b (.malformed why)
  | short (hmin : b.length < 5) : ReplyOutcome maxPayload b .incomplete
  | waiting (hlength : b.length < need (b.getD 1 0) (b.getD 2 0))
      (hroom : need (b.getD 1 0) (b.getD 2 0) ≤ max 8 (5 + maxPayload)) : ReplyOutcome maxPayload b .incomplete

/-- What the decoder answers for a buffer of function 0x03 (R65, R102). -/
theorem decodeReply_readReply_outcome (maxPayload : Nat) (addr bc : Byte) {tail : List Byte} (h : 2 ≤ tail.length) :
    ReplyOutcome maxPayload (addr :: 0x03#8 :: bc :: tail) (decodeReply maxPayload (addr :: 0x03#8 :: bc :: tail)) := by
  have hneed : need ((addr :: 0x03#8 :: bc :: tail).getD 1 0) ((addr :: 0x03#8 :: bc :: tail).getD 2 0) =
    5 + bc.toNat := need_read bc
  rw [decodeReply_of_readReply _ _ _ h]
  rcases decodeReadReply_cases maxPayload addr bc tail with
    ⟨why, hr, -⟩ | ⟨hr, hfits, hshort⟩ | ⟨values, lo, hi, rest, hr, hbc, hfits, rfl⟩ <;> rw [hr]
  · exact .malformed why
  · refine .waiting ?_ ?_ <;> rw [hneed]
    · simp only [List.length_cons]; omega
    · omega
  · have hcount : BitVec.ofNat 8 (2 * values.length) = bc := by rw [hbc, BitVec.ofNat_toNat, BitVec.setWidth_eq]
    have hlt := bc.isLt
    have hfew : values.length ≤ 127 := by omega
    refine .frame (.rdrpl addr values lo hi) (rdrplFrame addr values lo hi) rest rfl rfl (decide_eq_true hfew)
      (decide_eq_true (by omega)) rfl ?_ ?_
    · rw [rdrplFrame_append, hcount]
    · rw [hneed, ← hbc]; simp [rdrplFrame]; omega

theorem confirmFrame_be16 (addr fc a b c d lo hi : Byte) :
    confirmFrame addr fc (be16 a b) (be16 c d) lo hi = [addr, fc, a, b, c, d, lo, hi] := by
  rw [confirmFrame, hi8_be16, lo8_be16, hi8_be16, lo8_be16]

/-- A buffer that needs eight bytes and has fewer waits; `tail` is what follows its third byte (R71). -/
theorem ReplyOutcome.of_short_confirm (maxPayload : Nat) (addr : Byte) {fc b2 : Byte} {tail : List Byte}
    (hneed : need fc b2 = 8) (h : tail.length < 5) :
    ReplyOutcome maxPayload (addr :: fc :: b2 :: tail) .incomplete := by
  refine .waiting ?_ ?_ <;> simp only [List.getD_cons_succ, List.getD_cons_zero, hneed, List.length_cons] <;> omega

/-- What the decoder answers, by the function byte (R69, R100). -/
theorem decodeReply_outcome (maxPayload : Nat) (b : List Byte) :
    ReplyOutcome maxPayload b (decodeReply maxPayload b) := by
  match b with
  | addr :: fc :: b2 :: b3 :: b4 :: rest =>
    rcases functionByte_cases fc with h7 | rfl | rfl | rfl | ⟨h7, hfc⟩
    · rw [decodeReply_of_bit7 _ _ _ _ _ _ h7]
      refine .frame (.excrpl addr (fc.setWidth 7) b2 b3 b4) [addr, fc, b2, b3, b4] rest rfl rfl rfl rfl ?_ rfl
        (need_of_bit7 b2 h7).symm
      rw [encode, excrplFrame, functionByte_of_bit7 fc h7]
    · exact decodeReply_readReply_outcome maxPayload addr b2 (Nat.le_add_left 2 _)
    · match rest with
      | b5 :: lo :: hi :: rest =>
        exact .frame (.wrscnf addr (be16 b2 b3) (be16 b4 b5) lo hi) _ rest rfl rfl rfl rfl
          (congrArg Image.toEngine (confirmFrame_be16 ..)) rfl (need_writeSingle b2).symm
      | [] | [_] | [_, _] => exact .of_short_confirm maxPayload addr (need_writeSingle b2) (by simp)
    · match rest with
      | b5 :: lo :: hi :: rest =>
        exact .frame (.wrmcnf addr (be16 b2 b3) (be16 b4 b5) lo hi) _ rest rfl rfl rfl rfl
          (congrArg Image.toEngine (confirmFrame_be16 ..)) rfl (need_writeMultiple b2).symm
      | [] | [_] | [_, _] => exact .of_short_confirm maxPayload addr (need_writeMultiple b2) (by simp)
    · rw [decodeReply_of_unknown _ _ _ _ _ _ h7 hfc]; exact .malformed _
  | [] | [_] | [_, _] | [_, _, _] | [_, _, _, _] => exact .short (by simp)

theorem need_ge_five (fc b2 : Byte) : 5 ≤ need fc b2 := by
  unfold need; split_ifs <;> omega

/-- With MIN_FRAME bytes buffered, a buffer waits exactly when it is not malformed and below its need (R71). -/
theorem decodeReply_incomplete_iff {maxPayload : Nat} {b : List Byte} (hmin : 5 ≤ b.length) :
    decodeReply maxPayload b = .incomplete ↔
      (∀ why, decodeReply maxPayload b ≠ .malformed why) ∧ b.length < need (b.getD 1 0) (b.getD 2 0) := by
  have houtcome := decodeReply_outcome maxPayload b
  generalize decodeReply maxPayload b = r at houtcome
  cases houtcome with
  | frame i f rest hdecoded hreply hwf hfits hencode hbegins hneed =>
    have hlength : f.length ≤ b.length := by rw [hbegins, List.length_append]; omega
    refine ⟨fun hr => ?_, fun ⟨_, hlt⟩ => by omega⟩
    rw [hr] at hdecoded; cases hdecoded
  | malformed why => exact ⟨fun hr => (nomatch hr), fun ⟨hnot, _⟩ => (hnot why rfl).elim⟩
  | short hshort => omega
  | waiting hlength hroom => exact ⟨fun _ => ⟨fun _ => (nomatch ·), hlength⟩, fun _ => rfl⟩

/-- A full receive buffer never waits: what it may wait for fits in it (R115). -/
theorem decodeReply_of_full {s : State} (h : s.rxbuf.length = s.rxbufCap) :
    decodeReply s.maxPayload s.rxbuf ≠ .incomplete := by
  have hcap := rxbufCap_ge s
  have hpayload : s.rxbufCap = 5 + s.maxPayload := rfl
  have houtcome := decodeReply_outcome s.maxPayload s.rxbuf
  intro hr
  rw [hr] at houtcome
  cases houtcome with
  | frame i f rest hdecoded => cases hdecoded
  | short hmin => omega
  | waiting hlength hroom => omega

/-- A buffer of function 0x03 is malformed by its byte count, waits, or is a read reply with its address (R102). -/
theorem decodeReply_readReply_cases (maxPayload : Nat) (addr bc : Byte) {tail : List Byte} (h : 2 ≤ tail.length) :
    let r := decodeReply maxPayload (addr :: 0x03#8 :: bc :: tail)
    r = .malformed .oversized ∨ r = .malformed .odd ∨ r = .incomplete ∨
      ∃ values lo hi, r = .readReply addr values lo hi := by
  intro r
  have hr : r = decodeReadReply maxPayload (addr :: 0x03#8 :: bc :: tail) addr bc := decodeReply_of_readReply _ _ _ h
  rw [hr]
  rcases decodeReadReply_cases maxPayload addr bc tail with
    ⟨why, hread, rfl | rfl⟩ | ⟨hread, -⟩ | ⟨values, lo, hi, -, hread, -⟩
  · exact .inl hread
  · exact .inr (.inl hread)
  · exact .inr (.inr (.inl hread))
  · exact .inr (.inr (.inr ⟨values, lo, hi, hread⟩))

/-- Only a function byte outside the map is malformed as unknown (R69, R105). -/
theorem decodeReply_unknownFunction_iff (maxPayload : Nat) (addr b2 b3 b4 : Byte) {fc : Byte} (rest : List Byte)
    (h7 : fc.getLsbD 7 = false) :
    decodeReply maxPayload (addr :: fc :: b2 :: b3 :: b4 :: rest) = .malformed .unknownFunction ↔
      fc ≠ 0x03#8 ∧ fc ≠ 0x06#8 ∧ fc ≠ 0x10#8 := by
  refine ⟨fun hr => ⟨?_, ?_, ?_⟩, decodeReply_of_unknown maxPayload addr b2 b3 b4 rest h7⟩ <;> rintro rfl
  · rcases decodeReply_readReply_cases maxPayload addr b2 (tail := b3 :: b4 :: rest) (Nat.le_add_left 2 _) with
      h | h | h | ⟨values, lo, hi, h⟩ <;> rw [h] at hr <;> cases hr
  · rw [decodeReply_of_writeSingle] at hr; split at hr <;> cases hr
  · rw [decodeReply_of_writeMultiple] at hr; split at hr <;> cases hr

/-! ### The statements -/

/-- Settles O5: the two directions of the command decoder. -/
theorem commandEncodingRoundTrip : Obligations.CommandEncodingRoundTrip :=
  ⟨fun maxPayload _ hc => decode_encode_command maxPayload hc,
    fun _ _ h => ⟨decodeCommand_isCommand h, encode_of_decodeCommand h⟩⟩

/-- Settles O6: a frame is read by its body, and each body is that of one request. -/
theorem requestEncodingRoundTrip : Obligations.RequestEncodingRoundTrip := by
  refine ⟨fun maxPayload _ hreq hwf => decode_encode_request maxPayload hreq hwf, fun f i h => ?_⟩
  obtain ⟨body, rfl, hbody⟩ := decodeRequest_instr h
  exact encode_of_decodeRequestBody hbody

/-- Settles O7: one equation of the decoder for each reply format. -/
theorem replyDecodesFromItsEncoding : Obligations.ReplyDecodesFromItsEncoding := by
  unfold Obligations.ReplyDecodesFromItsEncoding
  intro maxPayload i f trailing hreply hwf hfits hencode
  cases i with
  | excrpl addr orig code lo hi => cases hencode; rw [decodeReply_excrplFrame]; rfl
  | rdrpl addr values lo hi =>
    cases hencode
    rw [decodeReply_rdrplFrame addr lo hi trailing (of_decide_eq_true hwf) (of_decide_eq_true hfits)]; rfl
  | wrscnf addr idx val lo hi => cases hencode; rw [decodeReply_writeSingle]; rfl
  | wrmcnf addr start count lo hi => cases hencode; rw [decodeReply_writeMultiple]; rfl
  | _ => cases hreply

/-- Settles O8: the frame with which an accepted buffer begins is as long as its second and third byte announce. -/
theorem acceptedBufferBeginsWithItsFrame : Obligations.AcceptedBufferBeginsWithItsFrame := by
  unfold Obligations.AcceptedBufferBeginsWithItsFrame
  intro maxPayload b i h
  have houtcome := decodeReply_outcome maxPayload b
  generalize decodeReply maxPayload b = r at h houtcome
  cases houtcome with
  | frame j f rest hdecoded hreply hwf hfits hencode hbegins hneed =>
    obtain rfl : j = i := Decoded.instr.inj (hdecoded.symm.trans h)
    have hmin := need_ge_five (b.getD 1 0) (b.getD 2 0)
    have hlength : f.length ≤ b.length := by rw [hbegins, List.length_append]; omega
    refine ⟨hreply, hwf, hfits, by omega, by omega, ?_⟩
    rw [hencode, ← hneed, hbegins, List.take_left]
  | malformed | short | waiting => cases h

/-- Settles O4: the only refusals are two of the decoder's reasons, and neither is given for a reserved code. -/
theorem stepRefusesOnlyNonCommands : Obligations.StepRefusesOnlyNonCommands := by
  unfold Obligations.StepRefusesOnlyNonCommands
  intro s r h
  obtain ⟨bits, rest, hagenda, hrun⟩ := step_refused h
  have hwhy := runDecoded_refused hrun
  refine ⟨bits, rest, hagenda, hwhy, fun op hop => ?_⟩
  have hreserved : ¬(op = 0x0#4 ∨ op = 0xC#4 ∨ op = 0xD#4 ∨ op = 0xE#4) := by
    intro hop'
    have hdecode := decodeCommand_of_reserved hop' (bits.drop 4)
    rw [← hop, List.take_append_drop] at hdecode
    rw [hdecode] at hwhy
    rcases hwhy with ⟨-, hshort⟩ | ⟨-, hlong⟩
    · cases hshort
    · cases hlong
  simpa only [not_or] using hreserved

/-- Settles O9: one equation of the decoder for each case of the map R69. -/
theorem functionByteSelectsTheVariant : Obligations.FunctionByteSelectsTheVariant := by
  unfold Obligations.FunctionByteSelectsTheVariant
  intro maxPayload addr fc b2 b3 b4 rest
  have hmsb : fc.msb = fc.getLsbD 7 := BitVec.msb_eq_getLsbD_last fc
  rw [hmsb]
  refine ⟨decodeReply_of_bit7 maxPayload addr b2 b3 b4 rest, fun h7 =>
    ⟨decodeReply_unknownFunction_iff maxPayload addr b2 b3 b4 rest h7, ?_, ?_, ?_⟩⟩ <;> rintro rfl
  · exact decodeReply_readReply_cases maxPayload addr b2 (Nat.le_add_left 2 _)
  · exact decodeReply_of_writeSingle maxPayload addr b2 b3 b4 rest
  · exact decodeReply_of_writeMultiple maxPayload addr b2 b3 b4 rest

/-- Settles O11: the decoder waits only below the need, and a full buffer has room for every need that it waits for. -/
theorem incompleteExactlyBelowNeed : Obligations.IncompleteExactlyBelowNeed :=
  ⟨fun _ _ hmin => decodeReply_incomplete_iff hmin, fun _ hfull => decodeReply_of_full hfull⟩

/-- Settles O2: the decoder names the reserved code, and a step on it only takes the action and clears the result. -/
theorem reservedCommandChangesNothing : Obligations.ReservedCommandChangesNothing := by
  unfold Obligations.ReservedCommandChangesNothing
  intro s op operands rest hop hagenda
  rw [step_of_command hagenda, decodeCommand_of_reserved hop]
  rfl

end Sys2Proof.Machine
end

section
/-! PROOFS, family 40_crc.md: the shift steps of the CRC as a linear and injective map on words, the table-driven form,
the zero residue of the validator, and the frames that a step transmits or prepares. The facts come first, then the
statements. -/

namespace Sys2Proof.Machine

open Sys2Proof

/-! ### Facts: request frames in TXLOG and in the transmit slot -/

theorem isRequestFrame_encRead (s : State) (start count : Word) : IsRequestFrame (encRead s start count) :=
  ⟨.rdreq s.devAddr start count, rfl, rfl, rfl⟩

theorem isRequestFrame_encWriteSingle (s : State) (idx : Byte) (val : Word) :
    IsRequestFrame (encWriteSingle s idx val) :=
  ⟨.wrsreq s.devAddr idx val, rfl, rfl, rfl⟩

theorem isRequestFrame_encWriteMultiple (s : State) (start : Word) {words : List Word} (h : words.length ≤ 127) :
    IsRequestFrame (encWriteMultiple s start words) :=
  ⟨.wrmreq s.devAddr start words, rfl, decide_eq_true h, rfl⟩

/-- A state with the log and the slot of one that sends only requests sends only requests. -/
theorem SendsOnlyRequests.congr {s t : State} (h : SendsOnlyRequests s) (hlog : t.txlog = s.txlog)
    (hslot : t.txbuf = s.txbuf) : SendsOnlyRequests t := by
  unfold SendsOnlyRequests
  rw [hlog, hslot]
  exact h

theorem SendsOnlyRequests.takeSlot {s : State} (h : SendsOnlyRequests s) : SendsOnlyRequests (takeSlot s) :=
  ⟨h.1, .inl rfl⟩

theorem SendsOnlyRequests.prepare {s : State} {f : List Byte} (h : SendsOnlyRequests s) (hf : IsRequestFrame f) :
    SendsOnlyRequests (prepare f s) :=
  ⟨h.1, .inr hf⟩

theorem SendsOnlyRequests.transmit {s : State} {f : List Byte} (h : SendsOnlyRequests s) (hf : IsRequestFrame f) :
    SendsOnlyRequests (transmit f s) := by
  obtain ⟨hlog, hslot⟩ := h
  refine ⟨fun e he => ?_, hslot⟩
  rw [transmit_txlog] at he
  rcases List.mem_append.1 he with hold | hnew
  · exact hlog e hold
  · rw [List.eq_of_mem_singleton hnew]; exact hf

/-- Phase 3 transmits the prepared frame or one that an encoder builds there (R148 to R151). -/
theorem SendsOnlyRequests.phase3 {s : State} (h : SendsOnlyRequests s) : SendsOnlyRequests (phase3 s) := by
  rcases phase3_cases s with h3 | ⟨-, ⟨hne, h3⟩ | ⟨e, t, hp, -, h3⟩ | ⟨e, t, hp, -, h3⟩ | ⟨-, h3⟩ | h3⟩ <;> rw [h3]
  · exact h
  · exact h.takeSlot.transmit (h.2.resolve_left (List.length_pos_iff.1 hne))
  · obtain ⟨-, -, rfl⟩ := pop_some hp
    exact h.congr rfl rfl
  · obtain ⟨-, -, rfl⟩ := pop_some hp
    exact (h.congr rfl rfl).transmit (isRequestFrame_encWriteSingle ..)
  · exact (h.congr (takePreset_txlog s) (takePreset_txbuf s)).transmit (isRequestFrame_encRead ..)
  · exact h.transmit (isRequestFrame_encRead ..)

/-- Of a tick's phases only the last touches the log or the slot. -/
theorem SendsOnlyRequests.advance {s : State} (h : SendsOnlyRequests s) (now : Time) :
    SendsOnlyRequests (advance now s) :=
  (h.congr (t := phase2 (phase1 (tickStart now s))) (by simp [tickStart]) (by simp [tickStart])).phase3

/-- Every host operation keeps it that only requests are sent. -/
theorem CommandEffect.keeps_sendsOnlyRequests {s t : State} {i : Instr} (he : CommandEffect s i t)
    (h : SendsOnlyRequests s) : SendsOnlyRequests t := by
  cases he with
  | tick now => exact (h.advance now).congr rfl rfl
  | reset now => exact ⟨h.1, .inl rfl⟩
  | enqueue idx val u hu => obtain ⟨_, rfl⟩ := push_some hu; exact h.congr rfl rfl
  | prepared nr w hn =>
    have hwords : w.toList.length ≤ 127 := by simp
    exact (h.prepare (isRequestFrame_encWriteMultiple s _ hwords)).congr rfl rfl
  | _ => exact h.congr rfl rfl

/-! ### Facts: the shift steps of the CRC -/

/-- A shift step shifts right, and adds the polynomial if bit 0 was 1 (R80). -/
theorem crcShift_eq_xor (c : Word) :
    crcShift c = (c >>> 1) ^^^ (if c.getLsbD 0 then 0xA001#16 else 0#16) := by
  unfold crcShift
  split
  · rfl
  · exact BitVec.xor_zero.symm

theorem crcShift_of_even {c : Word} (h : c.getLsbD 0 = false) : crcShift c = c >>> 1 :=
  if_neg (Bool.eq_false_iff.1 h)

/-- A shift step is linear: the polynomial enters twice, and cancels, when both low bits are 1. -/
theorem crcShift_xor (a b : Word) : crcShift (a ^^^ b) = crcShift a ^^^ crcShift b := by
  have hpoly : (if (a.getLsbD 0 ^^ b.getLsbD 0) then 0xA001#16 else 0#16) =
      (if a.getLsbD 0 then 0xA001#16 else 0#16) ^^^ (if b.getLsbD 0 then 0xA001#16 else 0#16) := by
    cases a.getLsbD 0 <;> cases b.getLsbD 0 <;> rfl
  simp only [crcShift_eq_xor, BitVec.getLsbD_xor, BitVec.ushiftRight_xor_distrib, hpoly]
  ac_rfl

/-- Bit 15 of a shift step is bit 0 before it: the polynomial has that bit, and the shift brings a 0 there (R80). -/
theorem crcShift_getLsbD_15 (c : Word) : (crcShift c).getLsbD 15 = c.getLsbD 0 := by
  rw [crcShift_eq_xor, BitVec.getLsbD_xor, BitVec.getLsbD_ushiftRight, BitVec.getLsbD_of_ge c (1 + 15) (by decide)]
  cases c.getLsbD 0 <;> rfl

/-- Only the zero word is shifted to zero, so no two words are shifted to the same one. -/
theorem crcShift_eq_zero_iff (c : Word) : crcShift c = 0#16 ↔ c = 0#16 := by
  refine ⟨fun h => ?_, fun h => by rw [h]; rfl⟩
  have hbit0 : c.getLsbD 0 = false := by rw [← crcShift_getLsbD_15, h]; rfl
  rw [crcShift_of_even hbit0] at h
  apply BitVec.eq_of_getLsbD_eq
  intro i hi
  cases i with
  | zero => exact hbit0
  | succ i =>
    have hshifted := congrArg (BitVec.getLsbD · i) h
    simpa [Nat.add_comm] using hshifted

theorem crcShifts_xor (n : Nat) : ∀ a b : Word, crcShifts n (a ^^^ b) = crcShifts n a ^^^ crcShifts n b := by
  induction n with
  | zero => exact fun _ _ => rfl
  | succ n ih => intro a b; simp only [crcShifts, crcShift_xor, ih]

theorem crcShifts_eq_zero_iff (n : Nat) : ∀ c : Word, crcShifts n c = 0#16 ↔ c = 0#16 := by
  induction n with
  | zero => exact fun _ => Iff.rfl
  | succ n ih => exact fun c => (ih (crcShift c)).trans (crcShift_eq_zero_iff c)

/-- Shift steps that meet only zero bits shift right (R80). -/
theorem crcShifts_of_low_zeros (n : Nat) : ∀ c : Word, (∀ i < n, c.getLsbD i = false) → crcShifts n c = c >>> n := by
  induction n with
  | zero => exact fun c _ => (BitVec.ushiftRight_zero c).symm
  | succ n ih =>
    intro c hlow
    have hlow' : ∀ i < n, (c >>> 1).getLsbD i = false := fun i hi => by
      rw [BitVec.getLsbD_ushiftRight]; exact hlow (1 + i) (by omega)
    rw [crcShifts, crcShift_of_even (hlow 0 n.succ_pos), ih _ hlow', ← BitVec.shiftRight_add, Nat.add_comm]

/-! ### Facts: one byte and two bytes of the CRC -/

theorem be16_getLsbD (a b : Byte) (i : Nat) :
    (be16 a b).getLsbD i = if i < 8 then b.getLsbD i else a.getLsbD (i - 8) := BitVec.getLsbD_append

/-- A word is its low byte and its high byte, each in its place (R46). -/
theorem be16_eq_xor (hi lo : Byte) : be16 hi lo = be16 hi 0#8 ^^^ lo.setWidth 16 := by
  apply BitVec.eq_of_getLsbD_eq
  intro i hlt
  rw [BitVec.getLsbD_xor, be16_getLsbD, be16_getLsbD, BitVec.getLsbD_setWidth]
  by_cases h : i < 8
  · simp [h, hlt]
  · simp [h, hlt, BitVec.getLsbD_of_ge lo i (Nat.le_of_not_lt h)]

/-- Eight shift steps bring a high byte down. -/
theorem crcShifts_high (hi : Byte) : crcShifts 8 (be16 hi 0#8) = hi.setWidth 16 := by
  rw [crcShifts_of_low_zeros 8 _ fun i hlt => by simp [be16_getLsbD, hlt]]
  apply BitVec.eq_of_getLsbD_eq
  intro i hlt
  simp [be16_getLsbD, hlt]

/-- Eight shift steps on a word: its high byte comes down, its low byte becomes its table entry (R84). -/
theorem crcShifts_be16 (hi lo : Byte) : crcShifts 8 (be16 hi lo) = hi.setWidth 16 ^^^ crcTable lo := by
  rw [be16_eq_xor, crcShifts_xor, crcShifts_high, crcTable]

theorem hi8_xor_byte (c : Word) (b : Byte) : (hi8 (c ^^^ b.setWidth 16)).setWidth 16 = c >>> 8 := by
  apply BitVec.eq_of_getLsbD_eq
  intro i hlt
  by_cases h : i < 8
  · simp [hi8, h, hlt]
  · simp [hi8, h, hlt, BitVec.getLsbD_of_ge c (8 + i) (by omega)]

/-- The table-driven form of one byte computes the eight shift steps (R80, R84). -/
theorem crcTableByte_eq_crcByte (c : Word) (b : Byte) : crcTableByte c b = crcByte c b := by
  rw [crcByte, ← be16_hi8_lo8 (c ^^^ b.setWidth 16), crcShifts_be16, hi8_xor_byte, crcTableByte]

theorem crc16Table_eq_crc16 (s : List Byte) : crc16Table s = crc16 s := by
  rw [crc16Table, crc16, funext₂ crcTableByte_eq_crcByte]

/-- Two bytes enter the register as the word they spell, low byte first, and sixteen shift steps follow. -/
theorem crcByte_crcByte (c : Word) (lo hi : Byte) :
    crcByte (crcByte c lo) hi = crcShifts 8 (crcShifts 8 (c ^^^ be16 hi lo)) := by
  calc crcByte (crcByte c lo) hi
      = crcShifts 8 (crcShifts 8 (c ^^^ lo.setWidth 16) ^^^ crcShifts 8 (be16 hi 0#8)) := by
        rw [crcShifts_high]; rfl
    _ = crcShifts 8 (crcShifts 8 (c ^^^ be16 hi lo)) := by
        rw [← crcShifts_xor, BitVec.xor_assoc, BitVec.xor_comm (lo.setWidth 16), ← be16_eq_xor]

/-- The residue of a sequence is zero exactly when its last two bytes spell the CRC of the rest, low byte first. -/
theorem crc16_append_eq_zero_iff (body : List Byte) (lo hi : Byte) :
    crc16 (body ++ [lo, hi]) = 0#16 ↔ crc16 body = be16 hi lo := by
  have htrailer : crc16 (body ++ [lo, hi]) = crcByte (crcByte (crc16 body) lo) hi := by simp [crc16]
  rw [htrailer, crcByte_crcByte, crcShifts_eq_zero_iff, crcShifts_eq_zero_iff, BitVec.xor_eq_zero_iff]

/-! ### Facts: the validator -/

/-- The validator compares the CRC of what comes before the trailer with the word of the trailer (R82). -/
theorem crcCheck_append (body : List Byte) (lo hi : Byte) :
    crcCheck (body ++ [lo, hi]) = decide (crc16 body = be16 hi lo) := by
  simp [crcCheck, beq_eq_decide]

/-- A sequence of at least two bytes is a body and a trailer. -/
theorem exists_trailer {f : List Byte} (h : 2 ≤ f.length) : ∃ body lo hi, f = body ++ [lo, hi] := by
  obtain ⟨lo, hi, htrailer⟩ : ∃ lo hi, f.drop (f.length - 2) = [lo, hi] :=
    List.length_eq_two.1 (by rw [List.length_drop]; omega)
  exact ⟨f.take (f.length - 2), lo, hi, by rw [← htrailer, List.take_append_drop]⟩

/-! ### The statements -/

/-- Settles O49: the encoders build all that a tick transmits and all that PPS prepares, and a frame that waited was a
request already. -/
theorem stepSendsOnlyRequests : Obligations.StepSendsOnlyRequests := by
  unfold Obligations.StepSendsOnlyRequests
  intro s t hsends h
  rcases step_effect h with ⟨rest, q, r, rfl⟩ | ⟨i, rest, -, he⟩
  · exact hsends.congr rfl rfl
  · exact he.keeps_sendsOnlyRequests (hsends.congr (takeAction_txlog s rest) (takeAction_txbuf s rest))

/-- Settles O13: the two forms agree byte by byte, as the shift steps are linear. -/
theorem tableDrivenCrcAgrees : Obligations.TableDrivenCrcAgrees :=
  ⟨crc16Table_eq_crc16, by decide, by decide, by decide⟩

/-- Settles O14: with the trailer split off, the comparison is the validator's definition, and the residue is zero
exactly when the two compared words are equal, as the shift steps are injective. -/
theorem validatorIsZeroResidue : Obligations.ValidatorIsZeroResidue := by
  unfold Obligations.ValidatorIsZeroResidue
  refine ⟨fun f hf => ?_, fun f hf => ?_, crcCheck_crcAppend⟩ <;>
    obtain ⟨body, lo, hi, rfl⟩ := exists_trailer hf
  · rw [crcCheck_append]
    simp
  · rw [crcCheck_append, crc16_append_eq_zero_iff, decide_eq_true_iff]

end Sys2Proof.Machine
end

section
/-! PROOFS, family 41_frame_encode.md: executing a request frame transmits it. The facts come first, then the
statement. -/

namespace Sys2Proof.Machine

open Sys2Proof

/-! ### Facts: the bytes of payload words -/

theorem bytesOfWords_eq_flatMap (words : List Word) : bytesOfWords words = words.flatMap fun w => [hi8 w, lo8 w] := by
  induction words with
  | nil => rfl
  | cons w ws ih => rw [bytesOfWords, ih, List.flatMap_cons]; rfl

/-! ### Facts: what executing a request frame transmits (R152; log entry 9) -/

theorem exec_rdreq (addr : Byte) (start count : Word) (s : State) :
    exec (.rdreq addr start count) s = .next (transmit (crcAppend (rdreqBody addr start count)) s) := rfl

theorem exec_wrsreq (addr idx : Byte) (val : Word) (s : State) :
    exec (.wrsreq addr idx val) s = .next (transmit (crcAppend (wrsreqBody addr idx val)) s) := rfl

theorem exec_wrmreq (addr : Byte) (start : Word) (words : List Word) (s : State) :
    exec (.wrmreq addr start words) s = .next (transmit (crcAppend (wrmreqBody addr start words)) s) := rfl

/-! ### The statement -/

/-- Settles O15: each request frame is handed to `transmit`, and its body is the written-out bytes, the payload of a
WRMREQ word by word. -/
theorem requestFrameIsTransmitted : Obligations.RequestFrameIsTransmitted := by
  unfold Obligations.RequestFrameIsTransmitted
  intro s addr idx x y words
  refine ⟨exec_rdreq addr x y s, exec_wrsreq addr idx y s, ?writeMultiple⟩
  rw [← bytesOfWords_eq_flatMap]
  exact exec_wrmreq addr x words s

end Sys2Proof.Machine
end

section
/-! PROOFS, family 42_frame_decode.md: the words of a read reply, what executing and what classifying a reply frame do,
and which bytes of a received buffer have no effect. The facts about the decoder and the routing come first, then the
statements. -/

namespace Sys2Proof

/-! ### Facts: a reply with another address byte or another CRC -/

/-- The reply with `a` for its address byte; a buffer that is no frame has none. -/
def Reply.withAddr (a : Byte) : Reply → Reply
  | .exception _ orig code lo hi => .exception a orig code lo hi
  | .readReply _ values lo hi => .readReply a values lo hi
  | .writeSingleConfirm _ index value lo hi => .writeSingleConfirm a index value lo hi
  | .writeMultipleConfirm _ start count lo hi => .writeMultipleConfirm a start count lo hi
  | .malformed why => .malformed why
  | .incomplete => .incomplete

/-- The reply with `lo` and `hi` for its CRC bytes; a buffer that is no frame has none. -/
def Reply.withCrc (lo hi : Byte) : Reply → Reply
  | .exception addr orig code _ _ => .exception addr orig code lo hi
  | .readReply addr values _ _ => .readReply addr values lo hi
  | .writeSingleConfirm addr index value _ _ => .writeSingleConfirm addr index value lo hi
  | .writeMultipleConfirm addr start count _ _ => .writeMultipleConfirm addr start count lo hi
  | .malformed why => .malformed why
  | .incomplete => .incomplete

/-! ### Facts: the words of a read reply -/

/-- The words that the first `2 n` bytes spell, each its high byte first (R45, R65). -/
theorem wordsOfBytes_take {l : List Byte} {n : Nat} (h : 2 * n ≤ l.length) :
    wordsOfBytes (l.take (2 * n)) =
      (List.range n).map fun i => be16 (l.getD (2 * i) 0) (l.getD (2 * i + 1) 0) := by
  have hlength : (l.take (2 * n)).length = 2 * n := List.length_take_of_le h
  obtain ⟨-, hwords⟩ := bytesOfWords_wordsOfBytes n _ hlength
  have hbyte : ∀ j < 2 * n, (l.take (2 * n)).getD j 0 = l.getD j 0 := by
    intro j hj
    rw [List.getD_eq_getElem?_getD, List.getElem?_take_of_lt hj, List.getD_eq_getElem?_getD]
  refine List.ext_getElem (by simpa using hwords) fun i hi _ => ?_
  rw [hwords] at hi
  have hword := wordsOfBytes_getElem? (l.take (2 * n)) i (by omega)
  rw [hbyte _ (by omega), hbyte _ (by omega)] at hword
  rw [List.getElem_map, List.getElem_range]
  exact (List.getElem?_eq_some_iff.1 hword).2

end Sys2Proof

namespace Sys2Proof.Machine

open Sys2Proof

/-! ### Facts: a buffer of function 0x03 -/

/-- What a buffer of function 0x03 is, from the bytes `tail` after its byte count (R102). -/
theorem decodeReply_readReply (maxPayload : Nat) (addr bc : Byte) {tail : List Byte} (h : 2 ≤ tail.length) :
    decodeReply maxPayload (addr :: 0x03#8 :: bc :: tail) =
      if maxPayload < bc.toNat then .malformed .oversized
      else if bc.toNat % 2 = 1 then .malformed .odd
      else if tail.length < bc.toNat + 2 then .incomplete
      else .readReply addr (wordsOfBytes (tail.take bc.toNat)) (tail.getD bc.toNat 0) (tail.getD (bc.toNat + 1) 0) := by
  have hlength : (addr :: 0x03#8 :: bc :: tail).length < 5 + bc.toNat ↔ tail.length < bc.toNat + 2 := by
    simp only [List.length_cons]; omega
  rw [decodeReply_of_readReply _ _ _ h, decodeReadReply, Nat.add_comm 3, Nat.add_comm 4]
  simp only [getLsbD_zero_eq_odd, decide_eq_true_eq, hlength]
  rfl

/-! ### Facts: the bytes that the decoder only copies -/

/-- The address byte of a buffer is only copied to the frame (R107). -/
theorem decodeReply_withAddr (maxPayload : Nat) (a b : Byte) (tail : List Byte) :
    decodeReply maxPayload (b :: tail) = (decodeReply maxPayload (a :: tail)).withAddr b := by
  match tail with
  | fc :: b2 :: b3 :: b4 :: rest =>
    rcases functionByte_cases fc with h7 | rfl | rfl | rfl | ⟨h7, hfc⟩
    · simp only [decodeReply_of_bit7 _ _ _ _ _ _ h7]; rfl
    · have hmin : 2 ≤ (b3 :: b4 :: rest).length := Nat.le_add_left 2 _
      simp only [decodeReply_readReply _ _ _ hmin]; split_ifs <;> rfl
    · simp only [decodeReply_of_writeSingle]; split_ifs <;> rfl
    · simp only [decodeReply_of_writeMultiple]; split_ifs <;> rfl
    · simp only [decodeReply_of_unknown _ _ _ _ _ _ h7 hfc]; rfl
  | [] | [_] | [_, _] | [_, _, _] => rfl

/-- The two CRC bytes of a whole frame are only copied to it, and the bytes past it are not read (R71, R108). -/
theorem decodeReply_withCrc (maxPayload : Nat) (addr : Byte) {fc b2 : Byte} {payload : List Byte}
    (hpayload : payload.length = need fc b2 - 5) (lo hi lo' hi' : Byte) (rest rest' : List Byte) :
    decodeReply maxPayload (addr :: fc :: b2 :: (payload ++ lo' :: hi' :: rest')) =
      (decodeReply maxPayload (addr :: fc :: b2 :: (payload ++ lo :: hi :: rest))).withCrc lo' hi' := by
  rcases functionByte_cases fc with h7 | rfl | rfl | rfl | ⟨h7, hfc⟩
  · obtain rfl := List.length_eq_zero_iff.1 (hpayload.trans (by rw [need_of_bit7 b2 h7]))
    simp only [List.nil_append, decodeReply_of_bit7 _ _ _ _ _ _ h7]; rfl
  · have hbc : payload.length = b2.toNat := by rw [hpayload, need_read]; omega
    have hwhole : ∀ l h r, payload.length + 2 ≤ (payload ++ l :: h :: r : List Byte).length := by
      intro l h r; rw [List.length_append]; exact Nat.add_le_add_left (Nat.le_add_left 2 _) _
    have hmin : ∀ l h r, 2 ≤ (payload ++ l :: h :: r : List Byte).length := fun l h r =>
      Nat.le_trans (Nat.le_add_left 2 _) (hwhole l h r)
    simp only [decodeReply_readReply _ _ _ (hmin _ _ _), ← hbc, if_neg (Nat.not_lt.2 (hwhole _ _ _)), List.take_left]
    split_ifs
    · rfl
    · rfl
    · simp [Reply.withCrc]
  · match payload, hpayload with
    | [_, _, _], _ => rfl
  · match payload, hpayload with
    | [_, _, _], _ => rfl
  · match payload with
    | [] | [_] | _ :: _ :: _ =>
      simp only [List.nil_append, List.cons_append, decodeReply_of_unknown _ _ _ _ _ _ h7 hfc]; rfl

/-- A buffer that holds the whole frame its second and third byte announce does not wait (R71). -/
theorem decodeReply_ne_incomplete {maxPayload : Nat} {b : List Byte} (hmin : 5 ≤ b.length)
    (hneed : need (b.getD 1 0) (b.getD 2 0) ≤ b.length) : decodeReply maxPayload b ≠ .incomplete := by
  intro hr
  obtain ⟨-, hlt⟩ := (decodeReply_incomplete_iff hmin).1 hr
  omega

/-- A buffer with a frame of `n` bytes, split at its third byte and at its CRC. -/
theorem frame_of_le_length {n : Nat} {b : List Byte} (hmin : 5 ≤ n) (h : n ≤ b.length) :
    ∃ addr fc b2 payload lo hi rest, payload.length = n - 5 ∧ b = addr :: fc :: b2 :: (payload ++ lo :: hi :: rest) ∧
      b.take (n - 2) = addr :: fc :: b2 :: payload := by
  match b with
  | [] | [_] | [_, _] => simp only [List.length_cons, List.length_nil] at h; omega
  | addr :: fc :: b2 :: tail =>
    rw [List.length_cons, List.length_cons, List.length_cons] at h
    obtain ⟨payload, lo, hi, rest, hpayload, rfl⟩ := payload_of_le_length (n := n - 5) (tail := tail) (by omega)
    have hbody : n - 2 = payload.length + 3 := by omega
    exact ⟨addr, fc, b2, payload, lo, hi, rest, hpayload, rfl, by simp [hbody]⟩

/-- Two buffers with whole frames of the same bytes before the CRC decode to the same frame but for its CRC (R71,
R108). -/
theorem decodeReply_of_same_body (maxPayload : Nat) {b c : List Byte} {n : Nat}
    (hneed : need (b.getD 1 0) (b.getD 2 0) = n) (hb : n ≤ b.length) (hc : n ≤ c.length)
    (h : b.take (n - 2) = c.take (n - 2)) :
    ∃ lo hi, decodeReply maxPayload c = (decodeReply maxPayload b).withCrc lo hi := by
  have hmin : 5 ≤ n := hneed ▸ need_ge_five _ _
  obtain ⟨addr, fc, b2, payload, lo, hi, rest, hpayload, rfl, hbodyb⟩ := frame_of_le_length hmin hb
  obtain ⟨addr', fc', b2', payload', lo', hi', rest', -, rfl, hbodyc⟩ := frame_of_le_length hmin hc
  rw [hbodyb, hbodyc] at h
  cases h
  subst hneed
  exact ⟨lo', hi', decodeReply_withCrc maxPayload addr hpayload lo hi lo' hi' rest rest'⟩

/-! ### Facts: what routing does with the address, the CRC and the buffer -/

/-- The CRC bytes of a frame have no effect (R108). -/
@[simp] theorem route_withCrc (lo hi : Byte) (r : Reply) (s : State) : route (r.withCrc lo hi) s = route r s := by
  cases r <;> rfl

/-- Classification of a given buffer, the other state aside (R143). -/
theorem classify_of_rxbuf (b : List Byte) (s : State) :
    classify { s with rxbuf := b } = route (decodeReply s.maxPayload b) { s with rxbuf := b } :=
  classify_eq_route { s with rxbuf := b }

/-- A buffer that does not wait is dropped: what it was has no effect beyond its reply (R109, R114). -/
theorem route_of_complete {r : Reply} (h : r ≠ .incomplete) (b c : List Byte) (s : State) :
    route r { s with rxbuf := b } = route r { s with rxbuf := c } := by
  cases r with
  | readReply addr values lo hi => simp only [route, routeReadReply]; split <;> rfl
  | incomplete => exact (h rfl).elim
  | _ => rfl

/-- The address of a frame sets the "ours" tag and nothing else, and every buffer that does not wait is dropped (R17,
R109). -/
theorem route_withAddr (a : Byte) (r : Reply) (b c : List Byte) (s : State) :
    { route (r.withAddr a) { s with rxbuf := c } with rxOurs := false, rxbuf := [] } =
      { route r { s with rxbuf := b } with rxOurs := false, rxbuf := [] } := by
  cases r with
  | readReply addr values lo hi => simp only [route, Reply.withAddr, routeReadReply]; split <;> rfl
  | _ => rfl

/-! ### Facts: what executing a reply frame does (R110 to R113; log entry 10) -/

theorem exec_excrpl (addr : Byte) (orig : BitVec 7) (code lo hi : Byte) (s : State) :
    exec (.excrpl addr orig code lo hi) s = .next (routeException addr code s) := rfl

theorem exec_rdrpl (addr : Byte) (values : List Word) (lo hi : Byte) (s : State) :
    exec (.rdrpl addr values lo hi) s =
      .next (if s.maxPayload < 2 * values.length then routeMalformed s else routeReadReply addr values s) := rfl

theorem exec_wrscnf (addr : Byte) (idx val : Word) (lo hi : Byte) (s : State) :
    exec (.wrscnf addr idx val lo hi) s = .next (routeWriteSingle addr idx val s) := rfl

theorem exec_wrmcnf (addr : Byte) (start count : Word) (lo hi : Byte) (s : State) :
    exec (.wrmcnf addr start count lo hi) s = .next (routeWriteMultiple addr s) := rfl

/-- A malformed buffer sets the flag, is dropped, and changes nothing else (R114). -/
theorem routeMalformed_eq (s : State) : routeMalformed s = { s with errflag := true, rxbuf := [] } := rfl

/-- The record of what every accepted frame does (R109). -/
theorem accept_eq (addr : Byte) (s : State) :
    accept addr s = { s with
      rxOurs := decide (addr = s.devAddr), errflag := false, await := false
      replyCtr := s.replyCtr + 1, rxbuf := [] } := rfl

theorem routeReadReply_of_redirect {s : State} (h : s.redirect = true) (addr : Byte) (values : List Word) :
    routeReadReply addr values s =
      accept addr { s with rclass := .data, pbuf := overlayBank values s.pbuf, redirect := false } := by
  rw [routeReadReply, if_pos h]

theorem routeReadReply_of_not_redirect {s : State} (h : s.redirect = false) (addr : Byte) (values : List Word) :
    routeReadReply addr values s =
      accept addr { s with rclass := .data, hreg := overlayRegs values s.hreg, redirect := false } := by
  rw [routeReadReply, if_neg (by simp [h])]

/-! ### Facts: one register written -/

theorem setReg_of_le {index : Word} {regs : List Word} (h : regs.length ≤ index.toNat) (value : Word) :
    setReg index value regs = regs :=
  if_neg (Nat.not_lt.2 h)

theorem setReg_getElem?_self {index : Word} {regs : List Word} (h : index.toNat < regs.length) (value : Word) :
    (setReg index value regs)[index.toNat]? = some value := by
  rw [setReg, if_pos h, List.getElem?_set_self h]

theorem setReg_getElem?_ne {index : Word} {k : Nat} (h : k ≠ index.toNat) (value : Word) (regs : List Word) :
    (setReg index value regs)[k]? = regs[k]? := by
  unfold setReg
  split
  · exact List.getElem?_set_ne h.symm
  · rfl

/-! ### The statements -/

/-- Settles O10: the decoder's equation for function 0x03, its words read off one by one. -/
theorem readReplyByteCountRules : Obligations.ReadReplyByteCountRules := by
  refine ⟨fun _ => rfl, fun maxPayload addr bc b3 b4 rest => ?_⟩
  intro b
  have hmin : 2 ≤ (b3 :: b4 :: rest).length := Nat.le_add_left 2 _
  have hb : ∀ j, b.getD (3 + j) 0 = (b3 :: b4 :: rest).getD j 0 := fun j => by rw [Nat.add_comm]; rfl
  have hb' : ∀ j, b.getD (4 + j) 0 = (b3 :: b4 :: rest).getD (j + 1) 0 := fun j => by rw [Nat.add_comm]; rfl
  have hshort : (b3 :: b4 :: rest).length < bc.toNat + 2 ↔ rest.length < bc.toNat := by
    simp only [List.length_cons]; omega
  have hreply : decodeReply maxPayload b = _ := decodeReply_readReply maxPayload addr bc hmin
  simp only [hreply, hshort, hb, hb']
  split_ifs with hover hodd hwait
  · rfl
  · rfl
  · rfl
  · have heven : 2 * (bc.toNat / 2) = bc.toNat := by omega
    have hwords := wordsOfBytes_take (l := b3 :: b4 :: rest) (n := bc.toNat / 2) (by simp only [List.length_cons]; omega)
    rw [← hwords, heven]

/-- Settles O19: routing lays the words over the one destination or the other. -/
theorem readReplyLandsByRedirect : Obligations.ReadReplyLandsByRedirect := by
  unfold Obligations.ReadReplyLandsByRedirect
  intro s addr values lo hi hfits
  rw [exec_rdrpl, if_neg (Nat.not_lt.2 hfits)]
  refine ⟨_, rfl, ?_⟩
  cases hredirect : s.redirect with
  | true =>
    rw [routeReadReply_of_redirect hredirect]
    refine ⟨rfl, rfl, fun _ => ⟨rfl, fun k => ?_⟩, nofun⟩
    rw [accept_pbuf, overlayBank_getElem]
    split
    · next h => rw [List.getD_eq_getElem _ _ h]
    · next h => rw [List.getD_eq_default _ _ (Nat.le_of_not_lt h)]
  | false =>
    rw [routeReadReply_of_not_redirect hredirect]
    refine ⟨rfl, overlayRegs_length values s.hreg, nofun, fun _ => ⟨rfl, fun k hk => ?_⟩⟩
    rw [accept_hreg, overlayRegs_getElem? values s.hreg hk]
    split
    · next h => rw [List.getD_eq_getElem _ _ h, List.getElem?_eq_getElem h]
    · next h => rw [List.getD_eq_default _ _ (Nat.le_of_not_lt h), List.getElem?_eq_getElem hk]

/-- Settles O21: routing writes the one register, if it exists. -/
theorem writeSingleConfirmUpdatesCache : Obligations.WriteSingleConfirmUpdatesCache := by
  unfold Obligations.WriteSingleConfirmUpdatesCache
  intro s addr idx val lo hi
  exact ⟨_, exec_wrscnf addr idx val lo hi s, rfl, fun h => setReg_of_le h val, fun h => setReg_getElem?_self h val,
    setReg_length idx val s.hreg, fun k h => setReg_getElem?_ne h val s.hreg⟩

/-- Settles O27: both buffers decode to the same frame but for its CRC, which routing ignores. -/
theorem receivedCrcHasNoEffect : Obligations.ReceivedCrcHasNoEffect := by
  unfold Obligations.ReceivedCrcHasNoEffect
  intro s b c hb _ hneedb hneedc h
  obtain ⟨lo, hi, hreply⟩ := decodeReply_of_same_body s.maxPayload rfl hneedb hneedc h
  have hcomplete : decodeReply s.maxPayload b ≠ .incomplete := decodeReply_ne_incomplete hb hneedb
  calc classify { s with rxbuf := b }
      = route (decodeReply s.maxPayload b) { s with rxbuf := b } := classify_of_rxbuf b s
    _ = route (decodeReply s.maxPayload b) { s with rxbuf := c } := route_of_complete hcomplete b c s
    _ = route (decodeReply s.maxPayload c) { s with rxbuf := c } := by rw [hreply, route_withCrc]
    _ = classify { s with rxbuf := c } := (classify_of_rxbuf c s).symm

/-- Settles O28: both buffers decode to the same frame but for its address, which routing puts in the tag. -/
theorem addressByteOnlySetsTheTag : Obligations.AddressByteOnlySetsTheTag := by
  unfold Obligations.AddressByteOnlySetsTheTag
  intro s a b tail
  have hreply : decodeReply s.maxPayload (a :: tail) = (decodeReply s.maxPayload (b :: tail)).withAddr a :=
    decodeReply_withAddr s.maxPayload b a tail
  rw [classify_of_rxbuf, classify_of_rxbuf, hreply]
  exact route_withAddr a _ (b :: tail) (a :: tail) s

/-- Settles O18: the record of the exception, then what every accepted frame does. -/
theorem exceptionReplyIsRecorded : Obligations.ExceptionReplyIsRecorded := by
  unfold Obligations.ExceptionReplyIsRecorded
  intro s addr orig code lo hi
  rw [exec_excrpl, routeException, accept_eq]
  rfl

/-- Settles O20: the byte count is judged first, and the frame routed as malformed. -/
theorem oversizedReadReplyIsDropped : Obligations.OversizedReadReplyIsDropped := by
  unfold Obligations.OversizedReadReplyIsDropped
  intro s addr values lo hi hover
  rw [exec_rdrpl, if_pos hover, routeMalformed_eq]

/-- Settles O22: only the classification, then what every accepted frame does. -/
theorem writeMultipleConfirmWritesNoCache : Obligations.WriteMultipleConfirmWritesNoCache := by
  unfold Obligations.WriteMultipleConfirmWritesNoCache
  intro s addr start count lo hi
  rw [exec_wrmcnf, routeWriteMultiple, accept_eq]

/-- Settles O26: classification routes what the decoder answers, and nothing below MIN_FRAME. -/
theorem malformedAndIncompleteBuffers : Obligations.MalformedAndIncompleteBuffers := by
  unfold Obligations.MalformedAndIncompleteBuffers
  intro s
  refine ⟨classify_of_short, fun _ h => classify_of_incomplete h, fun why _ h => ?_⟩
  rw [classify_eq_route, h, route, routeMalformed_eq]

end Sys2Proof.Machine
end

section
/-! PROOFS, family 43_cache_queue.md: the circular buffer as a bounded FIFO, ENQ, and what each step does to the queue.
The facts about the queue's contents come first, then the statements. -/

namespace Sys2Proof.Machine

open Sys2Proof

/-! ### Facts: the queue's contents -/

@[simp] theorem queueList_length (s : State) : (queueList s).length = s.wqSize.val := by
  simp [queueList]

/-- The contents are a function of the three registers of R27. -/
theorem queueList_congr {s t : State} (hmem : t.wqMem = s.wqMem) (hhead : t.wqHead = s.wqHead)
    (hsize : t.wqSize = s.wqSize) : queueList t = queueList s := by
  unfold queueList queueAt queueSlot
  simp only [hmem, hhead, hsize]

@[simp] theorem queueList_setResult (r : Result) (s : State) : queueList (setResult r s) = queueList s := rfl
@[simp] theorem queueList_transmit (f : List Byte) (s : State) : queueList (transmit f s) = queueList s := rfl
@[simp] theorem queueList_takeAction (rest : List Action) (s : State) :
    queueList (takeAction rest s) = queueList s := rfl

theorem queueList_eq_nil {s : State} (h : s.wqSize = 0) : queueList s = [] :=
  List.eq_nil_of_length_eq_zero (by rw [queueList_length, h]; rfl)

/-- Positions below the capacity stand in different slots. -/
theorem queueSlot_ne {s : State} {p q : Nat} (hlt : p < q) (hq : q < 16) : queueSlot s q ≠ queueSlot s p := by
  unfold queueSlot; omega

/-! ### Facts: push and pop on the contents (R122, R123) -/

theorem push_of_lt {s : State} (e : PendingWrite) (h : s.wqSize.val < 16) : ∃ t, push e s = some t :=
  ⟨_, dif_pos h⟩

theorem push_of_full {s : State} (e : PendingWrite) (h : s.wqSize.val = 16) : push e s = none :=
  dif_neg (by omega)

theorem pop_of_empty {s : State} (h : s.wqSize.val = 0) : pop s = none :=
  if_pos h

/-- The written slot is none of an older entry's, so a push appends. -/
theorem queueList_push {s t : State} {e : PendingWrite} (h : push e s = some t) :
    queueList t = queueList s ++ [e] := by
  obtain ⟨hroom, rfl⟩ := push_some h
  unfold queueList
  rw [List.range_succ, List.map_append, List.map_singleton]
  congr 1
  · refine List.map_congr_left fun p hp => ?_
    exact Vector.getElem_set_ne (Nat.mod_lt _ (by decide)) _ (queueSlot_ne (List.mem_range.1 hp) hroom)
  · exact congrArg (fun x => [x]) (Vector.getElem_set_self _)

/-- The head moves on to the second entry's slot, so a pop takes the oldest off. -/
theorem queueList_pop {s t : State} {e : PendingWrite} (h : pop s = some (e, t)) :
    queueList s = e :: queueList t := by
  obtain ⟨hne, rfl, rfl⟩ := pop_some h
  obtain ⟨n, hn⟩ := Nat.exists_eq_succ_of_ne_zero hne
  unfold queueList
  simp only [hn, Nat.succ_eq_add_one, Nat.add_sub_cancel, List.range_succ_eq_map, List.map_cons, List.map_map]
  congr 1
  refine List.map_congr_left fun p _ => ?_
  have hslot : (s.wqHead.val + (p + 1)) % 16 = ((s.wqHead.val + 1) % 16 + p) % 16 := by omega
  simp only [Function.comp_apply, queueAt, queueSlot, Nat.succ_eq_add_one, hslot]

/-- On a queue with an oldest entry a pop answers it and leaves the others. -/
theorem pop_of_queueList_cons {s : State} {e : PendingWrite} {l : List PendingWrite} (h : queueList s = e :: l) :
    ∃ t, pop s = some (e, t) ∧ queueList t = l := by
  cases hp : pop s with
  | none =>
    have hlen := queueList_length s
    rw [h, pop_none hp] at hlen
    cases hlen
  | some et =>
    obtain ⟨e', t⟩ := et
    obtain ⟨rfl, rfl⟩ := List.cons.inj (h.symm.trans (queueList_pop hp))
    exact ⟨t, rfl, rfl⟩

/-! ### Facts: ENQ, and what a step does to the queue -/

theorem exec_enq_of_push_some {s t : State} {idx : Byte} {val : Word} (h : push ⟨idx, val⟩ s = some t) :
    exec (.enq idx val) s = .next (setResult (.ok true) t) := by
  simp only [exec, execEnq, h]

theorem exec_enq_of_push_none {s : State} {idx : Byte} {val : Word} (h : push ⟨idx, val⟩ s = none) :
    exec (.enq idx val) s = .next { s with result := .ok false } := by
  simp only [exec, execEnq, h]; rfl

/-- Of the priorities of phase 3 only the second pops, discarding or transmitting the oldest entry (R149). -/
theorem phase3_queue (s : State) :
    queueList (phase3 s) = queueList s ∨ ∃ e, queueList s = e :: queueList (phase3 s) := by
  rcases phase3_cases s with h | ⟨-, ⟨-, h⟩ | ⟨e, t, hp, -, h⟩ | ⟨e, t, hp, -, h⟩ | ⟨-, h⟩ | h⟩ <;> rw [h]
  · exact .inl rfl
  · exact .inl rfl
  · exact .inr ⟨e, queueList_pop hp⟩
  · rw [queueList_transmit]; exact .inr ⟨e, queueList_pop hp⟩
  · exact .inl rfl
  · exact .inl rfl

/-- A tick keeps the queue or takes its oldest entry off; the phases before transmission leave it. -/
theorem advance_queue (now : Time) (s : State) :
    queueList (advance now s) = queueList s ∨ ∃ e, queueList s = e :: queueList (advance now s) := by
  have hbefore : queueList (phase2 (phase1 (tickStart now s))) = queueList s :=
    queueList_congr (by simp [tickStart]) (by simp [tickStart]) (by simp [tickStart])
  rw [advance_eq, ← hbefore]
  exact phase3_queue _

/-- What a host operation does to the queue. -/
theorem CommandEffect.queue {s t : State} {i : Instr} (he : CommandEffect s i t) :
    queueList t = queueList s ∨
    (∃ idx val, i = .enq idx val ∧ queueList t = queueList s ++ [⟨idx, val⟩]) ∨
    (∃ now e, i = .adv now ∧ queueList s = e :: queueList t) ∨
    (∃ now, i = .rst now ∧ queueList t = []) := by
  cases he with
  | tick now =>
    rw [queueList_setResult]
    exact (advance_queue now s).imp_right fun ⟨e, h⟩ => .inr (.inl ⟨now, e, rfl, h⟩)
  | reset now => exact .inr (.inr (.inr ⟨now, rfl, queueList_eq_nil rfl⟩))
  | enqueue idx val u hu => rw [queueList_setResult]; exact .inr (.inl ⟨idx, val, rfl, queueList_push hu⟩)
  | _ => exact .inl rfl

/-! ### The statements -/

/-- Settles O30: on the contents a push is an append and a pop takes the head off, and each moves only the pieces of
`push_some` and `pop_some`. -/
theorem circularBufferRefinesFifo : Obligations.CircularBufferRefinesFifo := by
  unfold Obligations.CircularBufferRefinesFifo
  refine ⟨fun s e hroom => ?push, fun s e hfull => push_of_full e (queueList_length s ▸ hfull),
    fun s hempty => pop_of_empty ?empty, fun s e l hcons => ?pop⟩
  case push =>
    obtain ⟨t, hpush⟩ := push_of_lt e (queueList_length s ▸ hroom)
    refine ⟨t, hpush, queueList_push hpush, ?_⟩
    obtain ⟨-, rfl⟩ := push_some hpush
    refine ⟨rfl, rfl, fun k => ?_⟩
    simp only [Fin.getElem_fin, Vector.getElem_set, queueSlot, eq_comm]
  case empty => rw [← queueList_length, hempty, List.length_nil]
  case pop =>
    obtain ⟨t, hpop, hrest⟩ := pop_of_queueList_cons hcons
    refine ⟨t, hpop, hrest, ?_⟩
    obtain ⟨hne, rfl, rfl⟩ := pop_some hpop
    refine ⟨rfl, ?_, rfl, Nat.succ_pred_eq_of_ne_zero hne⟩
    have hslot : queueSlot s 0 = s.wqHead.val := Nat.mod_eq_of_lt s.wqHead.isLt
    simp only [queueAt, hslot, Fin.getElem_fin]

/-- Settles O31: ENQ answers 1 with the pushed state where a push succeeds, and 0 where it fails. -/
theorem enqAppendsOrRefuses : Obligations.EnqAppendsOrRefuses := by
  unfold Obligations.EnqAppendsOrRefuses
  intro s idx val
  refine ⟨rfl, fun hroom => ?_, fun hfull => exec_enq_of_push_none (push_of_full _ (queueList_length s ▸ hfull))⟩
  obtain ⟨t, hpush⟩ := push_of_lt ⟨idx, val⟩ (queueList_length s ▸ hroom)
  refine ⟨_, exec_enq_of_push_some hpush, queueList_setResult _ t ▸ queueList_push hpush, ?_⟩
  obtain ⟨-, rfl⟩ := push_some hpush
  rfl

/-- Settles O57: only a host operation reaches the queue, and its effects on the queue are those of
`CommandEffect.queue`. -/
theorem queueChangesOneEntryAtATime : Obligations.QueueChangesOneEntryAtATime := by
  unfold Obligations.QueueChangesOneEntryAtATime
  intro s t h
  rcases step_effect h with ⟨rest, q, r, rfl⟩ | ⟨i, rest, hnext, he⟩
  · exact .inl rfl
  · have hqueue := he.queue
    rw [queueList_takeAction] at hqueue
    rcases hqueue with hkept | ⟨idx, val, rfl, hq⟩ | ⟨now, e, rfl, hq⟩ | ⟨now, rfl, hq⟩
    · exact .inl hkept
    · exact .inr (.inl ⟨idx, val, hnext, hq⟩)
    · exact .inr (.inr (.inl ⟨now, e, hnext, hq⟩))
    · exact .inr (.inr (.inr ⟨now, hnext, hq⟩))

end Sys2Proof.Machine
end

section
/-! PROOFS, family 44_preset_pager.md: what PRQ, PPL and PPS do, how a preset read travels from its post to its poll,
and which operations move the pager. The facts come first, then the statements. -/

namespace Sys2Proof.Machine

open Sys2Proof

/-! ### Facts: the three operations (R131 to R133) -/

theorem bankLegal_of_gt {nr : BankNr} (h : 9 < nr.toNat) : bankLegal nr = false := by
  rw [← Bool.not_eq_true, bankLegal_iff]; omega

/-- The pager's completion test: it waits, and the counter differs from the snapshot (R132). -/
theorem presetReady_iff (s : State) : presetReady s = true ↔ s.ppState = .wait ∧ s.replyCtr ≠ s.ppSnap := by
  rw [presetReady, counterMoved, Bool.and_eq_true, decide_eq_true_iff, bne_iff_ne]

@[simp] theorem presetReady_setResult (r : Result) (s : State) : presetReady (setResult r s) = presetReady s := rfl

theorem exec_prq_of_send {s : State} {nr : BankNr} (hsend : s.ppState = .send) (hnr : nr.toNat ≤ 9) :
    exec (.prq nr) s = .next (setResult (.ok true) (postPreset nr s)) :=
  if_neg (by simp [hsend, (bankLegal_iff nr).2 hnr])

theorem exec_prq_of_invalid {s : State} {nr : BankNr} (h : s.ppState = .wait ∨ 9 < nr.toNat) :
    exec (.prq nr) s = .next (setResult (.ok false) s) :=
  if_pos (h.imp (fun hwait => by simp [hwait]) bankLegal_of_gt)

theorem exec_ppl_of_ready {s : State} (h : presetReady s = true) :
    exec .ppl s = .next (setResult (.preset true s.ppNr s.pbuf) (finishPreset s)) := if_pos h

theorem exec_ppl_of_not_ready {s : State} (h : ¬ presetReady s = true) :
    exec .ppl s = .next (setResult (.preset false 0#4 (Vector.replicate 14 0#16)) s) := if_neg h

theorem exec_pps_of_legal {nr : BankNr} (h : nr.toNat ≤ 9) (w : Bank) (s : State) :
    exec (.pps nr w) s =
      .next (setResult (.ok true) (prepare (encWriteMultiple s (bankAddr s.params nr) w.toList) s)) :=
  if_pos ((bankLegal_iff nr).2 h)

theorem exec_pps_of_gt {nr : BankNr} (h : 9 < nr.toNat) (w : Bank) (s : State) :
    exec (.pps nr w) s = .next (setResult (.ok false) s) :=
  if_neg (by simp [bankLegal_of_gt h])

theorem exec_adv (now : Time) (s : State) : exec (.adv now) s = .next (setResult .none (advance now s)) := rfl

/-- The write-multiple frame of a bank: 14 words, 28 payload bytes (R64, R92). -/
theorem encWriteMultiple_bank (s : State) (start : Word) (w : Bank) :
    encWriteMultiple s start w.toList =
      crcAppend ([s.devAddr, 0x10, hi8 start, lo8 start, 0x00, 0x0E, 0x1C] ++
        w.toList.flatMap fun v => [hi8 v, lo8 v]) := by
  rw [encWriteMultiple, wrmreqBody, Vector.length_toList, bytesOfWords_eq_flatMap]
  rfl

/-! ### Facts: the journey of a preset read (R134) -/

/-- The words of a whole bank cover the preset buffer (R110, R12). -/
theorem overlayBank_toList (w bank : Bank) : overlayBank w.toList bank = w := by
  refine Vector.ext fun k hk => ?_
  rw [overlayBank, Vector.getElem_ofFn, List.getD_eq_getElem _ _ (by simpa using hk), Vector.getElem_toList]

/-- At an open gate, with no prepared frame and no queued write, the posted preset read is served (R147, R150). -/
theorem phase3_of_posted {s : State} (hgate : gateOpen s = true) (hslot : s.txbuf = []) (hqueue : s.wqSize.val = 0)
    (hposted : s.preqPending = true) : phase3 s = priority3 s := by
  have hnoslot : ¬ 0 < s.txlen := by simp [State.txlen, hslot]
  rw [phase3, if_pos hgate, if_neg hnoslot, if_neg (by omega), if_pos hposted]

/-- A tick with nothing to receive, nothing in flight, the pacing interval over and no other work transmits the posted
preset read and redirects its reply; no reply is counted and the cache stays (R150, R152). -/
theorem advance_of_posted {now : Time} {s : State} (hidle : s.await = false) (hpaced : s.pacingMs ≤ now - s.tLastTx)
    (hslot : s.txbuf = []) (hqueue : s.wqSize.val = 0) (hrxq : s.rxq = []) (hshort : s.rxbuf.length < 5)
    (hposted : s.preqPending = true) :
    (advance now s).txlog = s.txlog ++ [(now, crcAppend (rdreqBody s.devAddr (bankAddr s.params s.ppNr) 14#16))] ∧
      (advance now s).redirect = true ∧ (advance now s).rxbuf = [] ∧ (advance now s).replyCtr = s.replyCtr ∧
      (advance now s).hreg = s.hreg := by
  have hreceive : phase1 (tickStart now s) = tickStart now s := phase1_of_waiting hrxq (.inl hshort)
  have hcount : (phase2 (tickStart now s)).replyCtr = s.replyCtr := phase2_replyCtr_of_idle hidle
  have hgate : gateOpen (phase2 (tickStart now s)) = true := by
    rw [gateOpen_iff, phase2_idle (s := tickStart now s) hidle]; exact ⟨hidle, hpaced⟩
  have hsend : phase3 (phase2 (tickStart now s)) = priority3 (phase2 (tickStart now s)) :=
    phase3_of_posted hgate (by simpa [tickStart] using hslot) (by simpa [tickStart] using hqueue)
      (by simpa [tickStart] using hposted)
  rw [advance_eq, hreceive, hsend]
  simpa [priority3, encRead, tickStart] using hcount

/-- A tick on bytes, buffered and waiting, that are a read reply under REDIRECT lays its words over PBUF, counts the
reply and leaves the cache (R109, R110). -/
theorem advance_of_redirected_readReply {now : Time} {s : State} {addr : Byte} {values : List Word} {lo hi : Byte}
    (h : decodeReply s.maxPayload (drain s).rxbuf = .readReply addr values lo hi) (hredirect : s.redirect = true) :
    (advance now s).pbuf = overlayBank values s.pbuf ∧ (advance now s).hreg = s.hreg ∧
      (advance now s).replyCtr = s.replyCtr + 1 := by
  have hphase1 : phase1 (tickStart now s) = routeReadReply addr values (drain (tickStart now s)) := by
    rw [phase1, classify_eq_route, (tickStart_drained_reply now s).trans h]; rfl
  rw [routeReadReply_of_redirect (s := drain (tickStart now s)) hredirect] at hphase1
  have hidle : (phase1 (tickStart now s)).await = false := by rw [hphase1]; rfl
  rw [advance_pbuf, advance_hreg, advance_replyCtr_of_accepted hidle, hphase1]
  simp [tickStart]

/-- A 14-word read reply that waits before an empty buffer is drained whole and decodes to its words: every machine's
MAX_PAYLOAD has room for a bank (R7, R102, R142). -/
theorem decodeReply_of_waiting_bank {s : State} {addr : Byte} {w : Bank} {lo hi : Byte} (hempty : s.rxbuf = [])
    (hrxq : s.rxq = rdrplFrame addr w.toList lo hi) :
    decodeReply s.maxPayload (drain s).rxbuf = .readReply addr w.toList lo hi := by
  have hwords : w.toList.length = 14 := w.length_toList
  have hcap := rxbufCap_ge s
  have hpayload := maxPayload_ge s
  have hfits : s.rxbuf.length + s.rxq.length ≤ s.rxbufCap := by
    rw [hempty, hrxq]; simpa [rdrplFrame] using hcap
  rw [drain_rxbuf_of_fits hfits, hempty, hrxq, List.nil_append]
  simpa using decodeReply_rdrplFrame addr lo hi [] (by omega) (by omega)

/-- The preset read of a bank has been transmitted and nothing has been counted since it was posted: the pager waits,
read data are redirected, and the receive buffer is empty (R150, R152). -/
structure PresetReadSent (nr : BankNr) (s : State) : Prop where
  waiting : s.ppState = .wait
  bank : s.ppNr = nr
  uncounted : s.ppSnap = s.replyCtr
  redirect : s.redirect = true
  rxbuf : s.rxbuf = []

theorem PresetReadSent.setResult {nr : BankNr} {s : State} (h : PresetReadSent nr s) (r : Result) :
    PresetReadSent nr (setResult r s) :=
  ⟨h.waiting, h.bank, h.uncounted, h.redirect, h.rxbuf⟩

theorem PresetReadSent.receive {nr : BankNr} {s : State} (h : PresetReadSent nr s) (bytes : List Byte) :
    PresetReadSent nr { s with rxq := bytes } :=
  ⟨h.waiting, h.bank, h.uncounted, h.redirect, h.rxbuf⟩

/-- PRQ in Send, then a tick at an open gate with no other work: the read of the bank is transmitted, and it is all
that the tick does to log and cache (R131, R150). -/
theorem exec_prq_adv {s : State} {nr : BankNr} {sent : Time} (hsend : s.ppState = .send) (hnr : nr.toNat ≤ 9)
    (hidle : s.await = false) (hpaced : s.pacingMs ≤ sent - s.tLastTx) (hslot : s.txbuf = [])
    (hqueue : s.wqSize.val = 0) (hrxq : s.rxq = []) (hshort : s.rxbuf.length < 5) :
    ∃ t u, exec (.prq nr) s = .next t ∧ exec (.adv sent) t = .next u ∧ PresetReadSent nr u ∧
      u.txlog = s.txlog ++ [(sent, crcAppend (rdreqBody s.devAddr (bankAddr s.params nr) 14#16))] ∧
      u.hreg = s.hreg := by
  obtain ⟨hlog, hredirect, hempty, hctr, hregs⟩ :=
    advance_of_posted (s := setResult (.ok true) (postPreset nr s)) hidle hpaced hslot hqueue hrxq hshort rfl
  have hsent : PresetReadSent nr (advance sent (setResult (.ok true) (postPreset nr s))) :=
    ⟨by simp, by simp, by simp [hctr], hredirect, hempty⟩
  exact ⟨_, _, exec_prq_of_send hsend hnr, exec_adv sent _, hsent.setResult .none, by simpa using hlog,
    by simpa using hregs⟩

/-- The tick that receives the answer to a transmitted preset read, then PPL: the answer's words land in PBUF under
REDIRECT, the counter moves on from the snapshot, and PPL returns the bank (R110, R132). -/
theorem PresetReadSent.exec_adv_ppl {nr : BankNr} {s : State} (h : PresetReadSent nr s) (answered : Time)
    {addr : Byte} {w : Bank} {lo hi : Byte} (hrxq : s.rxq = rdrplFrame addr w.toList lo hi) :
    ∃ t u, exec (.adv answered) s = .next t ∧ exec .ppl t = .next u ∧ u.result = .preset true nr w ∧
      u.ppState = .send ∧ u.redirect = false ∧ u.hreg = s.hreg := by
  obtain ⟨hwords, hregs, hctr⟩ :=
    advance_of_redirected_readReply (now := answered) (decodeReply_of_waiting_bank h.rxbuf hrxq) h.redirect
  rw [overlayBank_toList] at hwords
  have hready : presetReady (advance answered s) = true := by
    rw [presetReady_iff, advance_ppState, h.waiting, hctr, advance_ppSnap, h.uncounted]
    exact ⟨rfl, by bv_omega⟩
  refine ⟨_, _, exec_adv answered s, exec_ppl_of_ready ((presetReady_setResult _ _).trans hready), ?_⟩
  simp [hwords, h.bank, hregs]

/-! ### Facts: which operations move the pager (R130) -/

/-- What a host operation does to the pager's state. -/
theorem CommandEffect.pager {s t : State} {i : Instr} (he : CommandEffect s i t) :
    t.ppState = s.ppState ∨
    (∃ nr, i = .prq nr ∧ nr.toNat ≤ 9 ∧ t.ppState = .wait) ∨
    (i = .ppl ∧ s.replyCtr ≠ s.ppSnap ∧ t.ppState = .send) ∨
    (∃ now, i = .rst now ∧ t.ppState = .send) := by
  cases he with
  | tick now => rw [setResult_ppState, advance_ppState]; exact .inl rfl
  | reset now => exact .inr (.inr (.inr ⟨now, rfl, rfl⟩))
  | enqueue idx val u hu => obtain ⟨_, rfl⟩ := push_some hu; exact .inl rfl
  | post nr hn _ => exact .inr (.inl ⟨nr, rfl, hn, rfl⟩)
  | complete _ hc => exact .inr (.inr (.inl ⟨rfl, hc, rfl⟩))
  | _ => exact .inl rfl

/-! ### The statements -/

/-- Settles O36: the prepared frame is the write-multiple encoding of the bank, of nine bytes and two for each word. -/
theorem ppsPreparesTheFrame : Obligations.PpsPreparesTheFrame := by
  unfold Obligations.PpsPreparesTheFrame
  intro s nr w
  refine ⟨?encoding, fun hlegal => ?prepared, fun hgt => exec_pps_of_gt hgt w s⟩
  case encoding => rw [List.append_assoc]; rfl
  case prepared =>
    refine ⟨_, encWriteMultiple_bank s (bankAddr s.params nr) w, ?_, exec_pps_of_legal hlegal w s⟩
    rw [encWriteMultiple_length, Vector.length_toList]

/-- Settles O37: the tick after PRQ leaves the preset read sent, and its answer makes PPL complete. -/
theorem presetReadReturnsTheReplyWords : Obligations.PresetReadReturnsTheReplyWords := by
  unfold Obligations.PresetReadReturnsTheReplyWords
  intro s nr w sent answered addr lo hi f hsend hnr hidle hpaced hslot hqueue hrxq hshort hframe
  obtain ⟨s1, s2, hprq, hadv, hsent, hlog, hsentRegs⟩ :=
    exec_prq_adv hsend hnr hidle hpaced hslot hqueue hrxq hshort
  obtain ⟨s3, s4, hadv', hppl, hresult, hback, hcleared, hregs⟩ :=
    (hsent.receive f).exec_adv_ppl answered (Image.toEngine.inj hframe).symm
  exact ⟨s1, s2, s3, s4, hprq, hadv, hlog, hadv', hppl, hresult, hback, hcleared, hregs.trans hsentRegs⟩

/-- Settles O56: only a host operation reaches the pager, and its effects there are those of `CommandEffect.pager`. -/
theorem pagerStateMachine : Obligations.PagerStateMachine := by
  unfold Obligations.PagerStateMachine
  intro s t h
  rcases step_effect h with ⟨rest, q, r, rfl⟩ | ⟨i, rest, hnext, he⟩
  · exact ⟨fun hs ht => (nomatch hs.symm.trans ht), fun hs ht => (nomatch hs.symm.trans ht)⟩
  · rcases he.pager with hkept | ⟨nr, rfl, hnr, ht⟩ | ⟨rfl, hmoved, ht⟩ | ⟨now, rfl, ht⟩
    · rw [hkept, takeAction_ppState]
      exact ⟨fun hs hs' => (nomatch hs.symm.trans hs'), fun hs hs' => (nomatch hs.symm.trans hs')⟩
    · exact ⟨fun _ _ => ⟨nr, hnr, hnext⟩, fun _ hsend => (nomatch ht.symm.trans hsend)⟩
    · exact ⟨fun _ hwait => (nomatch ht.symm.trans hwait), fun _ _ => .inl ⟨hnext, hmoved⟩⟩
    · exact ⟨fun _ hwait => (nomatch ht.symm.trans hwait), fun _ _ => .inr ⟨now, hnext⟩⟩

/-- Settles O34: PRQ posts exactly in Send for a bank 0 to 9. -/
theorem prqPostsOrRefuses : Obligations.PrqPostsOrRefuses :=
  fun _ _ => ⟨rfl, exec_prq_of_send, exec_prq_of_invalid⟩

/-- Settles O35: PPL completes exactly where the completion test holds. -/
theorem pplCompletesOnAnyCounterMove : Obligations.PplCompletesOnAnyCounterMove := by
  refine ⟨rfl, fun s => ⟨fun hwait hmoved => exec_ppl_of_ready ((presetReady_iff s).2 ⟨hwait, hmoved⟩), fun hnot =>
    exec_ppl_of_not_ready fun hready => ?_⟩⟩
  obtain ⟨hwait, hmoved⟩ := (presetReady_iff s).1 hready
  rcases hnot with hsend | hsame
  · rw [hwait] at hsend; cases hsend
  · exact hmoved hsame

end Sys2Proof.Machine
end

section
/-! PROOFS, family 45_scheduler.md: the drain and the receive phase, the retry budget, the transmit gate and its four
priorities, the transaction across a whole tick, and the operations that only answer or configure. The facts come
first, in the order of the phases, then the statements. -/

namespace Sys2Proof.Machine

open Sys2Proof

/-! ### Facts: the receive phase (R142, R143) -/

/-- A drain into a buffer within its capacity: the first RXBUF_CAP bytes, buffered and waiting, in order (R142). -/
theorem drain_eq {s : State} (h : s.rxbuf.length ≤ s.rxbufCap) :
    drain s = { s with rxbuf := (s.rxbuf ++ s.rxq).take s.rxbufCap, rxq := [] } := by
  rw [drain, foldl_appendRx _ _ _ h]

/-- Executing a reply frame that the machine accepts is routing the reply that decodes to it (R109; log entry 10). -/
theorem exec_of_decoded {r : Reply} {i : Instr} {s : State} (hdecoded : r.decoded = .instr i)
    (hfits : i.fitsPayload s.maxPayload = true) : exec i s = .next (route r s) := by
  cases r with
  | exception addr orig code lo hi => cases hdecoded; exact exec_excrpl addr orig code lo hi s
  | readReply addr values lo hi =>
    cases hdecoded
    rw [exec_rdrpl, if_neg (Nat.not_lt.2 (of_decide_eq_true hfits))]; rfl
  | writeSingleConfirm addr index value lo hi => cases hdecoded; exact exec_wrscnf addr index value lo hi s
  | writeMultipleConfirm addr start count lo hi => cases hdecoded; exact exec_wrmcnf addr start count lo hi s
  | malformed why => cases hdecoded
  | incomplete => cases hdecoded

/-- The receive buffer has room for every reply frame that the machine accepts (R7, R30). -/
theorem frame_length_le_rxbufCap {s : State} {i : Instr} {f : List Byte} (hreply : i.isReply = true)
    (hfits : i.fitsPayload s.maxPayload = true) (hencode : encode i = .toEngine f) : f.length ≤ s.rxbufCap := by
  have hcap := rxbufCap_ge s
  cases i with
  | excrpl addr orig code lo hi => cases hencode; simp only [excrplFrame, List.length_cons, List.length_nil]; omega
  | rdrpl addr values lo hi =>
    cases hencode
    have hpayload : 2 * values.length ≤ s.maxPayload := of_decide_eq_true hfits
    have hroom : s.rxbufCap = 5 + s.maxPayload := rfl
    simp only [rdrplFrame, List.length_append, List.length_cons, List.length_nil, bytesOfWords_length]
    omega
  | wrscnf addr idx val lo hi => cases hencode; simp only [confirmFrame, List.length_cons, List.length_nil]; omega
  | wrmcnf addr start count lo hi => cases hencode; simp only [confirmFrame, List.length_cons, List.length_nil]; omega
  | _ => cases hreply

/-- When the bytes buffered and waiting begin with a reply frame that the machine accepts, the receive phase executes
that frame on the drained state (R143). -/
theorem exec_of_received {s : State} {i : Instr} {f trailing : List Byte} (hreply : i.isReply = true)
    (hwf : i.wellFormed = true) (hfits : i.fitsPayload s.maxPayload = true) (hencode : encode i = .toEngine f)
    (hbuf : s.rxbuf.length ≤ s.rxbufCap) (hbytes : s.rxbuf ++ s.rxq = f ++ trailing) :
    exec i { s with rxbuf := (f ++ trailing).take s.rxbufCap, rxq := [] } = .next (phase1 s) := by
  have hwhole : (f ++ trailing).take s.rxbufCap = f ++ trailing.take (s.rxbufCap - f.length) := by
    rw [List.take_append, List.take_of_length_le (frame_length_le_rxbufCap hreply hfits hencode)]
  have hdecoded : (decodeReply s.maxPayload ((f ++ trailing).take s.rxbufCap)).decoded = .instr i := by
    rw [hwhole]
    exact replyDecodesFromItsEncoding s.maxPayload i f _ hreply hwf hfits hencode
  rw [phase1, drain_eq hbuf, hbytes, classify_eq_route]
  exact exec_of_decoded hdecoded hfits

/-! ### Facts: the retry budget (R144 to R146) -/

/-- No coarse tick is due before COARSE_MS have passed (R145). -/
theorem coarseDue_of_lt {s : State} (h : s.now - s.tCoarse < 10) : ¬ coarseDue s = true := by
  rw [coarseDue_iff]; exact BitVec.not_le.2 h

/-- A coarse tick takes the last of the budget exactly from a budget of 1 (R145; log entry 16). -/
theorem retry_sub_one_eq_zero_iff (r : BitVec 3) : r - 1 = 0#3 ↔ r = 1 := by
  constructor <;> intro h <;> bv_omega

/-! ### Facts: the gate and the four priorities (R147 to R151) -/

/-- A closed gate: a request in flight, or the pacing interval not over (R147). -/
theorem phase3_of_closed {s : State} (h : s.await = true ∨ s.now - s.tLastTx < s.pacingMs) : phase3 s = s := by
  refine if_neg fun hgate => ?_
  obtain ⟨hidle, hpaced⟩ := (gateOpen_iff s).1 hgate
  rcases h with hbusy | hearly
  · rw [hidle] at hbusy; cases hbusy
  · exact BitVec.not_le.2 hearly hpaced

theorem phase3_of_prepared {s : State} (hgate : gateOpen s = true) (hslot : s.txbuf ≠ []) :
    phase3 s = transmit s.txbuf (takeSlot s) := by
  rw [phase3, if_pos hgate, if_pos (show 0 < s.txlen from List.length_pos_iff.2 hslot), priority1]

/-- With the slot empty and a write queued, the oldest write is popped, and discarded or transmitted (R149). -/
theorem phase3_of_queued {s t : State} {e : PendingWrite} (hgate : gateOpen s = true) (hslot : s.txbuf = [])
    (hpop : pop s = some (e, t)) :
    phase3 s = if skipWrite t e then t else transmit (encWriteSingle t e.idx e.val) t := by
  have hnoslot : ¬ 0 < s.txlen := by simp [State.txlen, hslot]
  obtain ⟨hqueue, -, -⟩ := pop_some hpop
  rw [phase3, if_pos hgate, if_neg hnoslot, if_pos (Nat.pos_of_ne_zero hqueue), priority2, hpop]

/-- With no other work, the refresh goes out unless it is disabled (R151). -/
theorem phase3_of_no_work {s : State} (hgate : gateOpen s = true) (hslot : s.txbuf = []) (hqueue : s.wqSize.val = 0)
    (hposted : s.preqPending = false) : phase3 s = if s.refreshDisable then s else priority4 s := by
  have hnoslot : ¬ 0 < s.txlen := by simp [State.txlen, hslot]
  rw [phase3, if_pos hgate, if_neg hnoslot, if_neg (by omega), if_neg (by simp [hposted])]

theorem phase3_of_refresh {s : State} (hgate : gateOpen s = true) (hslot : s.txbuf = []) (hqueue : s.wqSize.val = 0)
    (hposted : s.preqPending = false) (henabled : s.refreshDisable = false) : phase3 s = priority4 s := by
  rw [phase3_of_no_work hgate hslot hqueue hposted, if_neg (by simp [henabled])]

theorem exists_pop {s : State} (h : 0 < s.wqSize.val) : ∃ e t, pop s = some (e, t) := by
  cases hpop : pop s with
  | none => rw [pop_none hpop] at h; cases h
  | some et => exact ⟨et.1, et.2, rfl⟩

/-- The skip-unchanged test, which a pop does not affect (R149). -/
theorem skipWrite_of_pop {s t : State} {e : PendingWrite} (hpop : pop s = some (e, t)) :
    skipWrite t e = true ↔ s.skipUnchanged = true ∧ cacheGet s e.idx = e.val := by
  obtain ⟨-, -, rfl⟩ := pop_some hpop
  rw [skipWrite, Bool.and_eq_true, beq_iff_eq]
  rfl

/-- What phase 3 does for a queued write that is not skipped: WRSREQ with the present address (R91, R149). -/
theorem phase3_of_unskipped {s t : State} {e : PendingWrite} (hgate : gateOpen s = true) (hslot : s.txbuf = [])
    (hpop : pop s = some (e, t)) (hunskipped : ¬ (s.skipUnchanged = true ∧ cacheGet s e.idx = e.val)) :
    phase3 s = transmit (crcAppend (wrsreqBody s.devAddr e.idx e.val)) t := by
  rw [phase3_of_queued hgate hslot hpop, if_neg (mt (skipWrite_of_pop hpop).1 hunskipped)]
  obtain ⟨-, -, rfl⟩ := pop_some hpop
  rfl

/-! ### Facts: the transaction across a tick (R153, R154, R161) -/

/-- What a tick does to the transaction: it transmits nothing, and AWAIT stays or ends with a counted event; or it
transmits one frame, paced, after a counted event if a request was in flight. -/
theorem advance_transaction (now : Time) (s : State) :
    ((advance now s).txlog = s.txlog ∧
      ((advance now s).await = s.await ∨
        (advance now s).await = false ∧ (advance now s).replyCtr = s.replyCtr + 1)) ∨
    ∃ f, (advance now s).txlog = s.txlog ++ [(now, f)] ∧ (advance now s).tLastTx = now ∧
      (advance now s).await = true ∧ s.pacingMs ≤ now - s.tLastTx ∧
      (s.await = true → (advance now s).replyCtr = s.replyCtr + 1) := by
  have hcount := tick_counts now s
  rw [advance_eq] at hcount ⊢
  have hlog : (phase2 (phase1 (tickStart now s))).txlog = s.txlog := by simp [tickStart]
  rcases phase3_transmits_or_not (phase2 (phase1 (tickStart now s))) with
    ⟨hkept, hawait, -⟩ | ⟨hgate, hawait, hstamp, -, f, hsent⟩
  · refine .inl ⟨hkept.trans hlog, ?_⟩
    rw [hawait]
    exact hcount.imp (·.2) fun ⟨hctr, hidle⟩ => ⟨hidle, hctr⟩
  · obtain ⟨hidle, hpaced⟩ := (gateOpen_iff _).1 hgate
    refine .inr ⟨f, by simpa [tickStart] using hsent, by simpa [tickStart] using hstamp, hawait,
      by simpa [tickStart] using hpaced, fun hbusy => ?_⟩
    rcases hcount with ⟨-, hstill⟩ | ⟨hctr, -⟩
    · rw [hidle, hbusy] at hstill; cases hstill
    · exact hctr

/-! ### Facts: the size of what a tick buffers and transmits (R162) -/

/-- A tick leaves no byte waiting in the transport (R142). -/
theorem advance_rxq (now : Time) (s : State) : (advance now s).rxq = [] := by
  rw [advance_eq, phase3_rxq, phase2_rxq, phase1, classify_rxq, drain_rxq]

theorem encRead_length (s : State) (start count : Word) : (encRead s start count).length = 8 := rfl

theorem encWriteSingle_length (s : State) (idx : Byte) (val : Word) : (encWriteSingle s idx val).length = 8 := rfl

/-- With a prepared frame of at most 37 bytes, phase 3 transmits at most one frame of that size (R29, R61). -/
theorem phase3_frame_length {s : State} (hslot : s.txbuf.length ≤ 37) :
    (phase3 s).txlog = s.txlog ∨ ∃ f, f.length ≤ 37 ∧ (phase3 s).txlog = s.txlog ++ [(s.now, f)] := by
  rcases phase3_cases s with h | ⟨-, ⟨-, h⟩ | ⟨e, t, hp, -, h⟩ | ⟨e, t, hp, -, h⟩ | ⟨-, h⟩ | h⟩ <;> rw [h]
  · exact .inl rfl
  · exact .inr ⟨s.txbuf, hslot, rfl⟩
  · obtain ⟨-, -, rfl⟩ := pop_some hp; exact .inl rfl
  · obtain ⟨-, -, rfl⟩ := pop_some hp; exact .inr ⟨_, by rw [encWriteSingle_length]; decide, rfl⟩
  · exact .inr ⟨_, by rw [encRead_length]; decide, rfl⟩
  · exact .inr ⟨_, by rw [encRead_length]; decide, rfl⟩

/-! ### The statements -/

/-- Settles O51: a tick is the only operation that transmits, and its transmission is that of `advance_transaction`. -/
theorem singleOutstandingAndPacing : Obligations.SingleOutstandingAndPacing := by
  unfold Obligations.SingleOutstandingAndPacing
  intro s t h
  rcases step_tick_reset_or_kept h with ⟨now, rest, -, rfl⟩ | ⟨now, rest, -, rfl⟩ | hk
  · simp only [setResult_txlog, setResult_now, setResult_tLastTx, setResult_await, setResult_pacingMs,
      setResult_replyCtr, advance_now, advance_pacingMs]
    rcases advance_transaction now (takeAction rest s) with ⟨hlog, -⟩ | ⟨f, hlog, hstamp, hawait, hpaced, hctr⟩
    · exact .inl hlog
    · exact .inr ⟨f, hlog, hstamp, hawait, hpaced, takeAction_pacingMs s rest, hctr⟩
  · exact .inl rfl
  · exact .inl hk.txlog

/-- Settles O16: one equation of phase 3 for the closed gate and for each kind of work at the open one. -/
theorem transmitOpportunityTakesFirstPriority : Obligations.TransmitOpportunityTakesFirstPriority := by
  unfold Obligations.TransmitOpportunityTakesFirstPriority
  intro s
  refine ⟨phase3_of_closed, fun hidle hpaced => ?_⟩
  have hgate : gateOpen s = true := (gateOpen_iff s).2 ⟨hidle, hpaced⟩
  refine ⟨fun hslot => ?prepared, fun hslot hqueue => ?queued, fun hslot hqueue hposted => ?posted,
    fun hslot hqueue hposted henabled => ?refresh, fun hslot hqueue hposted hdisabled => ?disabled⟩
  case prepared => rw [phase3_of_prepared hgate hslot]; rfl
  case queued =>
    obtain ⟨e, t, hpop⟩ := exists_pop hqueue
    refine ⟨e, t, hpop, fun hskip => ?_, fun hunskipped => ?_⟩
    · rw [phase3_of_queued hgate hslot hpop, if_pos ((skipWrite_of_pop hpop).2 hskip)]
    · rw [phase3_of_unskipped hgate hslot hpop hunskipped]
      obtain ⟨-, -, rfl⟩ := pop_some hpop
      rfl
  case posted => rw [phase3_of_posted hgate hslot hqueue hposted]; rfl
  case refresh => rw [phase3_of_refresh hgate hslot hqueue hposted henabled]; rfl
  case disabled => rw [phase3_of_no_work hgate hslot hqueue hposted, if_pos hdisabled]

/-- Settles O17: for each priority, phase 3 and the request frame transmit the same bytes from the same state. -/
theorem transmissionExecutesItsRequestFrame : Obligations.TransmissionExecutesItsRequestFrame := by
  refine ⟨fun s hidle hpaced hslot => ?built, fun s t nr w hpps hnr hidle hpaced => ?prepared⟩
  case built =>
    have hgate : gateOpen s = true := (gateOpen_iff s).2 ⟨hidle, hpaced⟩
    refine ⟨fun e t hpop hskip => ?_, fun hqueue hposted => ?_, fun hqueue hposted henabled => ?_⟩
    · rw [exec_wrsreq, phase3_of_unskipped hgate hslot hpop (by simp [hskip])]
    · rw [exec_rdreq, phase3_of_posted hgate hslot hqueue hposted]; rfl
    · rw [exec_rdreq, phase3_of_refresh hgate hslot hqueue hposted henabled]; rfl
  case prepared =>
    rw [exec_pps_of_legal hnr] at hpps
    cases hpps
    have hslot : encWriteMultiple s (bankAddr s.params nr) w.toList ≠ [] :=
      List.ne_nil_of_length_pos (by rw [encWriteMultiple_length]; omega)
    rw [exec_wrmreq, phase3_of_prepared ((gateOpen_iff _).2 ⟨hidle, hpaced⟩) hslot]
    rfl

/-- Settles O23: byte by byte, the drain appends while there is room. -/
theorem drainKeepsArrivalOrder : Obligations.DrainKeepsArrivalOrder := fun _ h => drain_eq h

/-- Settles O24: the drained buffer still begins with the frame, so classification decodes and routes it. -/
theorem receivePhaseRunsTheFrame : Obligations.ReceivePhaseRunsTheFrame :=
  fun _ _ _ _ hreply hwf hfits hencode hbuf hbytes => exec_of_received hreply hwf hfits hencode hbuf hbytes

/-- Settles O25: the receive phase of the tick runs on the state with the action taken and the per-tick flags
cleared. -/
theorem stepRunsReceivedFrame : Obligations.StepRunsReceivedFrame := by
  unfold Obligations.StepRunsReceivedFrame
  intro s i f trailing now bits rest hreply hwf hfits hencode hbuf hbytes hagenda hdecode
  refine ⟨phase1 (tickStart now (takeAction rest s)), ?received, ?step⟩
  case received => exact exec_of_received (s := tickStart now (takeAction rest s)) hreply hwf hfits hencode hbuf hbytes
  case step =>
    rw [step_of_command hagenda, hdecode]
    exact exec_adv now (takeAction rest s)

/-- Settles O39: phase 2 with nothing outstanding, and with a request outstanding, at a due coarse tick and before. -/
theorem retryBudgetAndTimeout : Obligations.RetryBudgetAndTimeout := by
  unfold Obligations.RetryBudgetAndTimeout
  intro s
  refine ⟨fun hidle hearly => ?_, fun hidle hdue => ?_, fun hbusy hearly => ?_, fun hbusy hdue hmore => ?_,
    fun hbusy hdue hlast => ?_⟩
  · rw [phase2_idle hidle, if_neg (coarseDue_of_lt hearly)]
  · rw [phase2_idle hidle, if_pos ((coarseDue_iff s).2 hdue)]
  · rw [phase2_busy hbusy, if_neg (coarseDue_of_lt hearly)]
  · rw [phase2_busy hbusy, if_pos ((coarseDue_iff s).2 hdue), if_neg (mt (retry_sub_one_eq_zero_iff _).1 hmore)]
  · rw [phase2_busy hbusy, if_pos ((coarseDue_iff s).2 hdue), if_pos ((retry_sub_one_eq_zero_iff _).2 hlast)]
    rfl

/-- Settles O46: a tick keeps the invariants, which bound the receive buffer and the prepared frame. -/
theorem tickWorkIsBounded : Obligations.TickWorkIsBounded := by
  unfold Obligations.TickWorkIsBounded
  intro s now hinv
  refine ⟨_, exec_adv now s, ?_⟩
  rw [setResult_rxq, setResult_rxbuf, queueList_setResult, setResult_txlog]
  refine ⟨advance_rxq now s, ?buffer, ?queue, ?log⟩
  case buffer =>
    obtain ⟨-, hbuf, -⟩ := advance_keeps_inv now hinv
    rwa [rxbufCap_congr (advance_hreg_length now s)] at hbuf
  case queue => exact (advance_queue now s).imp_left Eq.symm
  case log =>
    obtain ⟨-, -, hslot, -⟩ := hinv
    have hframe : (phase2 (phase1 (tickStart now s))).txbuf.length ≤ 37 := by
      simp only [phase2_txbuf, phase1_txbuf, tickStart]; omega
    simpa [advance_eq, tickStart] using phase3_frame_length hframe

/-- Settles O52: AWAIT moves only in a tick, as `advance_transaction` says, or in a reset. -/
theorem transactionStateMachine : Obligations.TransactionStateMachine := by
  unfold Obligations.TransactionStateMachine
  intro s t h
  rcases step_tick_reset_or_kept h with ⟨now, rest, hn, rfl⟩ | ⟨now, rest, hn, rfl⟩ | hk
  · rw [setResult_await, setResult_replyCtr, setResult_txlog, setResult_now, advance_now]
    rcases advance_transaction now (takeAction rest s) with ⟨-, hkept | ⟨hidle, hctr⟩⟩ | ⟨f, hlog, -, hawait, -⟩
    · rw [hkept, takeAction_await]
      exact ⟨fun hbusy hidle => (nomatch hbusy.symm.trans hidle), fun hidle hbusy => (nomatch hbusy.symm.trans hidle)⟩
    · exact ⟨fun _ _ => .inl hctr, fun _ hbusy => (nomatch hbusy.symm.trans hidle)⟩
    · exact ⟨fun _ hidle => (nomatch hawait.symm.trans hidle), fun _ _ => ⟨f, hlog, now, hn⟩⟩
  · exact ⟨fun _ _ => .inr ⟨now, hn⟩, fun _ hset => (nomatch hset)⟩
  · rw [hk.await]
    exact ⟨fun hbusy hidle => (nomatch hbusy.symm.trans hidle), fun hidle hbusy => (nomatch hbusy.symm.trans hidle)⟩

/-- Settles O29: each of the three only hands its value to the host; RDC's is the cached one. -/
theorem hostReadsReturnAndWriteNothing : Obligations.HostReadsReturnAndWriteNothing := by
  unfold Obligations.HostReadsReturnAndWriteNothing
  intro s idx x
  refine ⟨rfl, rfl, rfl, ?cached, rfl, ?fresh⟩
  case cached =>
    rw [exec_rdc]
    split
    · next h => rw [cacheGet_of_lt h]; rfl
    · next h => rw [cacheGet_of_le (Nat.le_of_not_lt h)]; rfl
  case fresh => rw [decide_not]; rfl

/-- Settles O38: the phases of `advance`, the first clearing the per-tick flags at the operand's time. -/
theorem advRunsFourPhases : Obligations.AdvRunsFourPhases := fun s now => ⟨rfl, exec_adv now s⟩

/-- Settles O42: the three encodings, and the three updates, are literal. -/
theorem configurationWritesItsRegisters : Obligations.ConfigurationWritesItsRegisters :=
  fun _ _ _ _ _ => ⟨rfl, rfl, rfl, rfl, rfl, rfl⟩

end Sys2Proof.Machine
end

section
/-! PROOFS, family 60_exceptions.md: a timeout is declared only for a request that the receive phase leaves
outstanding (R177). The fact about the retry budget comes first, then the statement. -/

namespace Sys2Proof.Machine

open Sys2Proof

/-! ### Facts: the retry budget when nothing is outstanding -/

/-- Phase 2 fills the budget when nothing is outstanding (R144). -/
theorem phase2_retry_of_idle {s : State} (h : s.await = false) : (phase2 s).retry = s.params.timeoutTicks := by
  rw [phase2_idle h]

/-- A tick whose receive phase left nothing outstanding ends with a full budget (R144, R177). -/
theorem advance_retry_of_accepted {now : Time} {s : State} (h : (phase1 (tickStart now s)).await = false) :
    (advance now s).retry = s.params.timeoutTicks := by
  rw [advance_eq, phase3_retry, phase2_retry_of_idle h, phase1_params]
  rfl

/-! ### The obligation -/

/-- Settles O45: phase 2 then finds nothing outstanding, so it keeps the counter and fills the budget, and phase 3
touches neither. -/
theorem acceptedFrameForestallsTheTimeout : Obligations.AcceptedFrameForestallsTheTimeout :=
  fun _ _ h => ⟨advance_replyCtr_of_accepted h, advance_retry_of_accepted h⟩

end Sys2Proof.Machine
end

section
/-! PROOFS, family 70_reset_and_hazards.md: the reset table (R190), the first frame after a reset (R191), and the bound
on a silent request (R208). The facts come first, then the statements. -/

namespace Sys2Proof.Machine

open Sys2Proof

/-! ### Facts: a tick that takes one from the retry budget (R145, R146) -/

/-- A request is in flight, no bytes wait in the transport, and the receive buffer holds an unfinished frame or none. -/
structure AwaitsSilently (s : State) : Prop where
  await : s.await = true
  rxq : s.rxq = []
  unfinished : s.rxbuf.length < 5 ∨ decodeReply s.maxPayload s.rxbuf = .incomplete

/-- The receive phase finds nothing to do for a silent request, so the tick is phases 2 and 3. -/
theorem AwaitsSilently.advance_eq {s : State} (h : AwaitsSilently s) (now : Time) :
    advance now s = phase3 (phase2 (tickStart now s)) :=
  have hreceive : phase1 (tickStart now s) = tickStart now s := phase1_of_waiting h.rxq h.unfinished
  congrArg (fun t => phase3 (phase2 t)) hreceive

/-- The state after a due coarse tick of a silent request that leaves some of the budget. -/
def spentOne (now : Time) (s : State) : State :=
  { tickStart now s with tCoarse := now, retry := s.retry - 1 }

/-- One coarse tick of a silent request takes one from the budget; the gate stays closed (R145, R147). -/
theorem AwaitsSilently.advance_of_more {s : State} (h : AwaitsSilently s) {now : Time}
    (hdue : Config.coarseMs ≤ now - s.tCoarse) (hmore : s.retry ≠ 1) : advance now s = spentOne now s := by
  obtain ⟨-, -, -, hmoreLeft, -⟩ := retryBudgetAndTimeout (tickStart now s)
  have hspend : phase2 (tickStart now s) = spentOne now s := hmoreLeft h.await hdue hmore
  have hclosed : phase3 (spentOne now s) = spentOne now s := phase3_of_closed (.inl h.await)
  rw [h.advance_eq, hspend, hclosed]

theorem AwaitsSilently.after_spentOne {s : State} (h : AwaitsSilently s) (now : Time) :
    AwaitsSilently (spentOne now s) :=
  ⟨h.await, h.rxq, h.unfinished⟩

/-- In `t` the request of `s` is still in flight and nothing has been counted, sent or buffered since. -/
structure StillInFlight (s t : State) : Prop where
  await : t.await = true
  replyCtr : t.replyCtr = s.replyCtr
  txlog : t.txlog = s.txlog
  rxbuf : t.rxbuf = s.rxbuf

/-- In `t` the request of `s` has been abandoned by the last tick, and that tick transmitted at most one new frame. -/
structure Abandoned (s t : State) : Prop where
  replyCtr : t.replyCtr = s.replyCtr + 1
  retry : t.retry = s.params.timeoutTicks
  rxbuf : t.rxbuf = []
  transaction : t.await = false ∧ t.txlog = s.txlog ∨ t.await = true ∧ ∃ f, t.txlog = s.txlog ++ [(t.now, f)]

/-- The coarse tick that takes the last of the budget abandons the request (R146); phase 3 may then transmit. -/
theorem AwaitsSilently.abandoned_of_last {s : State} (h : AwaitsSilently s) {now : Time}
    (hdue : Config.coarseMs ≤ now - s.tCoarse) (hlast : s.retry = 1) : Abandoned s (advance now s) := by
  obtain ⟨-, -, -, -, hnoneLeft⟩ := retryBudgetAndTimeout (tickStart now s)
  have hspend : phase2 (tickStart now s) = timeout (spentOne now s) := hnoneLeft h.await hdue hlast
  rw [h.advance_eq, hspend]
  rcases phase3_transmits_or_not (timeout (spentOne now s)) with
    ⟨hlog, hawait, -, -, hbuf, -⟩ | ⟨-, hawait, -, hbuf, f, hlog⟩
  · exact ⟨phase3_replyCtr _, phase3_retry _, hbuf, .inl ⟨hawait, hlog⟩⟩
  · exact ⟨phase3_replyCtr _, phase3_retry _, hbuf, .inr ⟨hawait, f, by rw [hlog, phase3_now]; rfl⟩⟩

/-- Before as many spaced ticks as the budget holds have run, a silent request is in flight; with the last of them it is
abandoned. By induction on the ticks, each but the last taking one from the budget. -/
theorem AwaitsSilently.ticks_abandon {times : List Time} (hsome : times ≠ []) : ∀ {s : State}, AwaitsSilently s →
    times.length = s.retry.toNat → Spaced s.tCoarse times →
      (∀ k, k < times.length → StillInFlight s (ticks (times.take k) s)) ∧ Abandoned s (ticks times s) := by
  induction times with
  | nil => exact absurd rfl hsome
  | cons now later ih =>
    intro s h hbudget ⟨hdue, hspaced⟩
    have hstart : StillInFlight s s := ⟨h.await, rfl, rfl, rfl⟩
    rw [List.length_cons] at hbudget
    by_cases hlater : later = []
    case pos =>
      subst hlater
      have hlast : s.retry = 1 := BitVec.eq_of_toNat_eq hbudget.symm
      refine ⟨fun k hk => ?_, h.abandoned_of_last hdue hlast⟩
      rw [Nat.lt_one_iff.1 hk]
      exact hstart
    case neg =>
      have hpos : 0 < later.length := List.length_pos_iff.2 hlater
      have hmore : s.retry ≠ 1 := by bv_omega
      have hrest : later.length = (s.retry - 1).toNat := by bv_omega
      have hcons : ∀ ts, ticks (now :: ts) s = ticks ts (spentOne now s) := fun ts =>
        congrArg (ticks ts) (h.advance_of_more hdue hmore)
      obtain ⟨hflight, habandoned⟩ := ih hlater (h.after_spentOne now) hrest hspaced
      refine ⟨fun k hk => ?_, ?_⟩
      · cases k with
        | zero => exact hstart
        | succ k =>
          rw [List.take_succ_cons, hcons]
          have hk' := hflight k (Nat.lt_of_succ_lt_succ hk)
          exact ⟨hk'.await, hk'.replyCtr, hk'.txlog, hk'.rxbuf⟩
      · rw [hcons]
        exact ⟨habandoned.replyCtr, habandoned.retry, habandoned.rxbuf, habandoned.transaction⟩

/-! ### Facts: a tick after a reset (R190, R191) -/

theorem exec_rst (now : Time) (s : State) : exec (.rst now) s = .next (resetEngine now s) := rfl

/-- A tick that finds nothing in flight before the pacing interval is over transmits nothing (R147). -/
theorem advance_of_early {now : Time} {s : State} (hidle : (phase1 (tickStart now s)).await = false)
    (hearly : now - s.tLastTx < s.pacingMs) :
    (advance now s).await = false ∧ (advance now s).tLastTx = s.tLastTx ∧ (advance now s).txlog = s.txlog ∧
      (advance now s).rxbuf = (phase1 (tickStart now s)).rxbuf := by
  have hclosed : phase3 (phase2 (phase1 (tickStart now s))) = phase2 (phase1 (tickStart now s)) :=
    phase3_of_closed (.inr (by simpa [tickStart] using hearly))
  rw [advance_eq, hclosed, phase2_idle hidle]
  exact ⟨hidle, by simp [tickStart], by simp [tickStart], rfl⟩

/-- A tick at an open gate with no other work transmits the refresh of the whole register map (R151, R152). -/
theorem advance_of_refresh {now : Time} {s : State} (hidle : (phase1 (tickStart now s)).await = false)
    (hpaced : s.pacingMs ≤ now - s.tLastTx) (hslot : s.txbuf = []) (hqueue : s.wqSize.val = 0)
    (hposted : s.preqPending = false) (henabled : s.refreshDisable = false) :
    (advance now s).await = true ∧ (advance now s).tLastTx = now ∧ (advance now s).rxbuf = [] ∧
      (advance now s).txlog =
        s.txlog ++ [(now, crcAppend (rdreqBody s.devAddr 0#16 (BitVec.ofNat 16 s.hreg.length)))] := by
  have hgate : gateOpen (phase2 (phase1 (tickStart now s))) = true := by
    rw [gateOpen_iff, phase2_idle hidle]; exact ⟨hidle, by simpa [tickStart] using hpaced⟩
  have hsend : phase3 (phase2 (phase1 (tickStart now s))) = priority4 (phase2 (phase1 (tickStart now s))) :=
    phase3_of_refresh hgate (by simpa [tickStart] using hslot) (by simpa [tickStart] using hqueue)
      (by simpa [tickStart] using hposted) (by simpa [tickStart] using henabled)
  rw [advance_eq, hsend]
  simp [priority4, encRead, State.nRegs, tickStart]

/-- The receive phase of the first tick after a reset classifies what waited in RXQ, up to the buffer's capacity (R142,
R190). -/
theorem phase1_of_resetEngine (start now : Time) (s : State) :
    phase1 (tickStart now (resetEngine start s)) =
      classify { resetEngine start s with now := now, rxbuf := s.rxq.take s.rxbufCap, rxq := [] } := by
  have hcap : (tickStart now (resetEngine start s)).rxbufCap = s.rxbufCap :=
    rxbufCap_congr (resetEngine_hreg_length start s)
  rw [phase1, drain_eq (Nat.zero_le _), hcap]
  rfl

/-- A reset leaves nothing in flight, and the receive phase starts nothing. -/
theorem phase1_of_resetEngine_await (start now : Time) (s : State) :
    (phase1 (tickStart now (resetEngine start s))).await = false := by
  have hreset : (tickStart now (resetEngine start s)).await = false := rfl
  rcases phase1_accepts_or_not (tickStart now (resetEngine start s)) with ⟨hkept, -⟩ | ⟨hidle, -⟩
  · exact hkept.trans hreset
  · exact hidle

/-! ### The statements -/

/-- Settles O40: each tick but the last takes one from the budget and leaves the rest; the last is the timeout. -/
theorem silentRequestTimesOutAfterTheBudget : Obligations.SilentRequestTimesOutAfterTheBudget := by
  unfold Obligations.SilentRequestTimesOutAfterTheBudget
  intro s times hawait hrxq hunfinished hbudget hsome hspaced
  have hsilent : AwaitsSilently s := ⟨hawait, hrxq, hunfinished⟩
  obtain ⟨hflight, habandoned⟩ := hsilent.ticks_abandon hsome hbudget hspaced
  refine ⟨fun k hk => ?_, habandoned.replyCtr, habandoned.retry, habandoned.rxbuf, habandoned.transaction⟩
  have hk := hflight k hk
  exact ⟨hk.await, hk.replyCtr, hk.txlog, hk.rxbuf⟩

/-- Settles O41: a reset leaves no work but the refresh, and the receive phase gives the caches, flags, records and
counter, which the phases after it keep. -/
theorem firstFrameAfterResetIsTheRefresh : Obligations.FirstFrameAfterResetIsTheRefresh := by
  unfold Obligations.FirstFrameAfterResetIsTheRefresh
  intro s start now
  have hidle := phase1_of_resetEngine_await start now s
  obtain ⟨hvalid, hcode, hclass⟩ := advance_exception_record now (resetEngine start s)
  refine ⟨resetEngine start s, setResult .none (advance now (resetEngine start s)), exec_rst start s,
    exec_adv now _, ?_⟩
  simp only [setResult_await, setResult_tLastTx, setResult_rxbuf, setResult_txlog, setResult_rxq, setResult_hreg,
    setResult_pbuf, setResult_rclass, setResult_rxOurs, setResult_errflag, setResult_excValid, setResult_excCode,
    setResult_replyCtr]
  refine ⟨fun hlate => ?late, fun hearly => ?early, advance_rxq now _, phase1 (tickStart now (resetEngine start s)),
    phase1_of_resetEngine start now s, fun hearly => ?buffer, advance_hreg now _, advance_pbuf now _, hclass, ?ours,
    ?errflag, hvalid, hcode, advance_replyCtr_of_accepted hidle⟩
  case late =>
    have hrefresh := advance_of_refresh (s := resetEngine start s) hidle hlate rfl rfl rfl rfl
    rwa [resetEngine_hreg_length] at hrefresh
  case early =>
    obtain ⟨hawait, hstamp, hlog, -⟩ := advance_of_early (s := resetEngine start s) hidle hearly
    exact ⟨hawait, hstamp, hlog⟩
  case buffer =>
    obtain ⟨-, -, -, hbuf⟩ := advance_of_early (s := resetEngine start s) hidle hearly
    exact hbuf
  case ours => rw [advance_eq, phase3_rxOurs, phase2_rxOurs]
  case errflag => rw [advance_eq, phase3_errflag, phase2_errflag]

/-- Settles O43: the register file and the preset buffer hold zeros; all else is the table's literal or what a reset
keeps. -/
theorem rstGivesTheResetTable : Obligations.RstGivesTheResetTable := by
  unfold Obligations.RstGivesTheResetTable
  intro s now
  have hzero : ∀ x ∈ (resetEngine now s).hreg, x = 0 := fun x hx => List.eq_of_mem_replicate hx
  have hbank : ∀ k : Fin 14, (resetEngine now s).pbuf[k] = 0 := by simp [resetEngine, State.afterReset]
  exact ⟨rfl, resetEngine now s, exec_rst now s, ⟨resetEngine_hreg_length now s, hzero⟩, hbank, rfl, rfl, rfl, rfl,
    rfl, rfl, rfl, rfl, rfl, rfl, rfl, rfl, rfl, rfl, rfl, rfl, rfl, rfl, rfl, rfl, rfl, rfl, rfl, rfl, rfl, rfl, rfl, rfl,
    rfl⟩

end Sys2Proof.Machine
end

section
/-! PROOFS, family other: words written out from the formats (30_encoding.md sections 1 and 4) are the encodings of their
instructions, which the round trips of the decoders read back. -/

namespace Sys2Proof.Machine

open Sys2Proof

/-! ### Facts: a written-out word as an encoding -/

/-- Bytes that are the encoding of a well-formed request decode to it (R62, R63, R64, R81). -/
theorem decodeRequest_of_encode {f : List Byte} {i : Instr} (hencode : encode i = .toSlave f)
    (hreq : i.isRequest = true) (hwf : i.wellFormed = true) : decodeRequest f = .instr i := by
  have hread := decode_encode_request 0 hreq hwf
  rwa [hencode] at hread

/-- Bits that are the encoding of a host operation decode to it (R72). -/
theorem decodeCommand_of_encode {bits : List Bool} {i : Instr} (hencode : encode i = .command bits)
    (hcommand : i.isCommand = true) : decodeCommand bits = .instr i := by
  have hread := decode_encode_command 0 hcommand
  rwa [hencode] at hread

/-- The trailer of the read request of 31 registers from 0 is its CRC, low byte first (R62, R81). -/
theorem encode_rdreq_of_31_registers :
    encode (.rdreq 0x01 0x0000 0x001F) = .toSlave [0x01, 0x03, 0x00, 0x00, 0x00, 0x1F, 0x04, 0x02] := by
  have hbody : rdreqBody 0x01 0x0000 0x001F = [0x01, 0x03, 0x00, 0x00, 0x00, 0x1F] := rfl
  have hcrc : crc16 [0x01, 0x03, 0x00, 0x00, 0x00, 0x1F] = 0x0204#16 := by
    simp [crc16, crcByte, crcShifts, crcShift]
  rw [encode, hbody, crcAppend, hcrc]
  rfl

/-! ### The statement -/

/-- Settles O12: each word is the encoding of its instruction, so the round trip of its format reads it back. -/
theorem writtenOutWordsDecode : Obligations.WrittenOutWordsDecode := by
  unfold Obligations.WrittenOutWordsDecode
  refine ⟨?exception, ?readReply, ?writeSingle, ?writeMultiple, ?request, ?rdc, ?sfl⟩
  case exception => exact decodeReply_excrplFrame 62 0x01 0x06 0x03 0x02 0x61 []
  case readReply => exact decodeReply_rdrplFrame 0x01 (values := [0x04B0, 0x01F4]) 0xFA 0xF3 [] (by decide) (by decide)
  case writeSingle => exact decodeReply_writeSingle 62 0x01 0x0000 0x04B0 0x8A 0xBE []
  case writeMultiple => exact decodeReply_writeMultiple 62 0x01 0x0070 0x000E 0x40 0x16 []
  case request => exact decodeRequest_of_encode encode_rdreq_of_31_registers rfl rfl
  case rdc => exact decodeCommand_of_encode rfl rfl
  case sfl => exact decodeCommand_of_encode rfl rfl

end Sys2Proof.Machine
end
